-- ==== Sys2Proof/Word.lean ====
section
/-! DEFINITION. The words of the part: characters, 16-bit fields and schedule clock values. -/

namespace Sys2Proof

/-- The eight data bits of one line character (R174). -/
abbrev Byte := BitVec 8

/-- A 16-bit field: tags, intervals, band limits, spans, drive counts. -/
abbrev Half := BitVec 16

/-- A schedule clock value, a 32-bit count of milliseconds (R90). -/
abbrev Clock := BitVec 32

end Sys2Proof
end

