-- ==== Sys2Proof/Syntax.lean ====
section
/-! DEFINITION. The rows of spec/opcode_table.json, one constructor each, in the table's order. -/

namespace Sys2Proof

/-- A point slot P0-P47 (R1). -/
abbrev Slot := Fin 48

/-- A reference A-D, numbered 0-3 (R46, Table 10-6). -/
abbrev RefId := Fin 4

/-- A drive channel D0-D7 (R132). -/
abbrev ChannelId := Fin 8

/-- A sensor input S0-S15 (Table 1-1). -/
abbrev SensorId := Fin 16

/-- A column COL0-COL7 of the matrix (R153). -/
abbrev Column := Fin 8

/-- The steps of the part. A row that completes an executor command has no operand of its own: it completes the frame in the
command buffer (R182), whose source and payload are its operands. The other rows carry what the outside supplies. -/
inductive Instr where
  /-- Completes DEFINE_POINT (R8-R10). -/
  | definePoint
  /-- Completes AMEND_POINT (R11-R15). -/
  | amendPoint
  /-- Completes START_POINT (R16, R17). -/
  | startPoint
  /-- Completes STOP_POINT (R18, R19). -/
  | stopPoint
  /-- Completes RETIRE_POINT (R20, R21). -/
  | retirePoint
  /-- Completes READ_POINT (R22, R23). -/
  | readPoint
  /-- Completes FIND_TAG (R24). -/
  | findTag
  /-- Completes LIST_POINTS (R25). -/
  | listPoints
  /-- Completes OFFER_POINT (R36). -/
  | offerPoint
  /-- Completes WITHDRAW_OFFER (R37). -/
  | withdrawOffer
  /-- Completes TAKE_POINT (R38, R39). -/
  | takePoint
  /-- Completes ASSIGN_OWNER (R43, R44). -/
  | assignOwner
  /-- Completes DEFINE_REF (R53). -/
  | defineRef
  /-- Completes AMEND_REF (R54, R55). -/
  | amendRef
  /-- Completes CALIBRATE_REF (R56). -/
  | calibrateRef
  /-- Completes READ_REF (R62). -/
  | readRef
  /-- Completes RETIRE_REF (R63). -/
  | retireRef
  /-- Completes MEASURE_NOW (R106). -/
  | measureNow
  /-- Completes MEASURE_OWNED, directed or broadcast (R107, R183). -/
  | measureOwned
  /-- Completes CONFIGURE_DRIVE (R139). -/
  | configureDrive
  /-- Completes SET_DRIVE_LEVELS (R140). -/
  | setDriveLevels
  /-- Completes SET_DRIVE_PERIOD (R142). -/
  | setDrivePeriod
  /-- Completes SET_MANUAL_DUTY (R141). -/
  | setManualDuty
  /-- Completes ENABLE_DRIVE (R143). -/
  | enableDrive
  /-- Completes DISABLE_DRIVE (R144). -/
  | disableDrive
  /-- Completes RELEASE_DRIVE (R149). -/
  | releaseDrive
  /-- Completes READ_DRIVE (R150). -/
  | readDrive
  /-- Completes LOCATE_POINT (R158). -/
  | locatePoint
  /-- Completes READ_NOTICES (R165). -/
  | readNotices
  /-- Completes READ_STATUS (R171). -/
  | readStatus
  /-- Completes CLEAR_CAUSES (R168). -/
  | clearCauses
  /-- Completes SET_DEVICE (R170). -/
  | setDevice
  /-- Completes CLEAR_TABLES (R172). -/
  | clearTables
  /-- Completes a frame whose command code is not listed (R188). -/
  | unknownCommand
  /-- Power-on, or NRESET goes low (R173). -/
  | hardwareReset
  /-- NRESET rises; the levels on ADDR2-ADDR0 and RATE1-RATE0 are latched (R173, R174). -/
  | resetRelease (addr : BitVec 3) (rate : BitVec 2)
  /-- The schedule clock steps (R90). -/
  | scheduleClockStep
  /-- The entry at the boundary of the marked and unmarked entries falls due (R93, R94). -/
  | fallingDue
  /-- The offer of a slot expires (R41). -/
  | offerExpiry (slot : Slot)
  /-- The locate of a slot expires (R159). -/
  | locateExpiry (slot : Slot)
  /-- The freshness deadline of a slot expires (R125). -/
  | freshnessDeadlineExpiry (slot : Slot)
  /-- The scheduler dispatches (R100-R103). -/
  | dispatch
  /-- The comparator result is latched; the operand is VDDA in whole millivolts, truncated (R68-R70). -/
  | supplyCheckLatch (vdda : Nat)
  /-- The hold timer reaches 100 ms (R71). -/
  | holdExpiry
  /-- N reference cycles are counted (R76). The operand of this row and of the next three is the frequency of the oscillator in its
  phase, in microhertz (R73). -/
  | referenceCountComplete (frequency : Nat)
  /-- The time base counter passes 4,194,303 first (R77). -/
  | referenceTimeBaseLimit (frequency : Nat)
  /-- The measurement counter passes 262,143 (R80). -/
  | sensorCountOverflow (frequency : Nat)
  /-- The window of T counts ends (R81). -/
  | sensorWindowEnd (frequency : Nat)
  /-- The counter of a channel steps from its terminal count to 0 (R134). -/
  | periodBoundary (channel : ChannelId)
  /-- A row slot starts (R153, R154). -/
  | rowSlotStart
  /-- The 250 microseconds of a dim cell end (R153). -/
  | cellOnTimeEnd (column : Column)
  /-- 1,750 microseconds into the row slot (R153). -/
  | blankingGap
  /-- A character with mark bit 1 and a high stop bit is received (R175). -/
  | addressCharacter (value : Byte)
  /-- A character with mark bit 0 and a high stop bit is received (R176). -/
  | dataCharacter (value : Byte)
  /-- A character is received whose stop bit is low (R176). -/
  | stopBitError (data : Byte) (mark : Bool)
  /-- The line has been idle for 22 bit times (R179). -/
  | idleGap
  /-- The line has been low for 22 bit times (R178). -/
  | lineBreak
  /-- The line rises after an all-low character or a break (R176, R178). -/
  | lineRise
  /-- The turnaround ends and the reply starts (R184). -/
  | turnaroundEnd
  /-- A sent character ends and has been heard back with these bits (R186). -/
  | characterEcho (data : Byte) (mark : Bool) (stop : Bool)
  /-- The counter of a channel reaches its active duty within a period (R133). -/
  | driveDutyCount (channel : ChannelId)
deriving DecidableEq, Repr

end Sys2Proof
end

