-- ==== Sys2Proof/Decode.lean ====
section
/-! DEFINITION. No row of spec/opcode_table.json gives bits, so no word spells a row. A controller's command reaches the part as
line characters, whose layout (Tables 10-4 to 10-6) the line port and Machine/Operands.lean read. -/

namespace Sys2Proof

/-- The row that a word of `nbits` bits spells: none, since no row of the table has bits. -/
def decodeTableWord (_nbits _w : Nat) : Option Instr := none

end Sys2Proof
end

