-- ==== Sys2Proof/Config.lean ====
section
/-! DEFINITION. What is fixed for every MONSPAR 6140. The book leaves no value undefined, so there is no free value here. -/

namespace Sys2Proof.Config

/-- The part code 6140 (R171, Table 10-10). -/
def partCode : Half := 0x17FC

/-- The revision (R171, Table 10-10). -/
def revision : Byte := 3

/-- The service controller's ID (R27). -/
def service : Byte := 15

/-- The broadcast address (R175). -/
def broadcast : Byte := 127

/-- The lowest drop address of a 6140; the address straps are added to it (R174). -/
def dropBase : Byte := 32

/-- Characters that the receive buffer holds after the address character (R176). -/
def bufferSize : Nat := 80

/-- The upper end of the VDDA range, in millivolts (Table 0-2). -/
def vddaMax : Nat := 3600

end Sys2Proof.Config
end

