-- ==== Sys2Proof/Machine/State.lean ====
section
/-! DEFINITION. All the state of the part: the tables of chapters 1, 3 and 7, the due queue, the converter, the matrix, the notice
unit, the settings, the line port, and the queue of rows that wait. -/

namespace Sys2Proof.Machine

/-- There is no fault: no rule of the book stops the part. -/
inductive Fault where
deriving DecidableEq, Repr

/-- Why a row is refused by the model. -/
inductive Refusal where
  /-- A row without a meaning; no arm of exec answers it. Safe. -/
  | notModelled (mnemonic : String)
deriving DecidableEq, Repr

/-! ### Points (chapter 1) -/

/-- The states of a non-vacant point (R6). -/
inductive PointState where
  | dormant | live | held
deriving DecidableEq, Repr

/-- The grade of a point's last result (Table 1-1). -/
inductive Quality where
  | none | good | clamped | open | short | refFault | stale
deriving DecidableEq, Repr

/-- The judgement of a point (Table 1-1). -/
inductive Alarm where
  | unknown | normal | low | high | fault
deriving DecidableEq, Repr

/-- A pending handover (R35). -/
structure Offer where
  recipient : Byte
  expiry : Clock
deriving DecidableEq, Repr

/-- A point record (Table 1-1). -/
structure PointRecord where
  state : PointState
  owner : Byte
  tag : Half
  input : SensorId
  reference : RefId
  interval : Half
  staleFactor : Byte
  faultLimit : Byte
  bandLow : Half
  bandHigh : Half
  hysteresis : Half
  notify : Bool
  binding : Option ChannelId
  lastValue : Option Half
  quality : Quality
  alarm : Alarm
  faults : Nat
  resultTime : Option Clock
  deadline : Option Clock
  offer : Option Offer
  locate : Option Clock
deriving DecidableEq, Repr

/-! ### References (chapter 3) -/

/-- The states of a defined reference (R48). -/
inductive RefState where
  | uncal | calibrating | valid | faulted
deriving DecidableEq, Repr

/-- How the oscillator is excited (R49). -/
inductive Excitation where
  | dc | alternating
deriving DecidableEq, Repr

/-- The fault outcomes of a reference job (R76, R77). -/
inductive RefFault where
  | refOpen | refShort
deriving DecidableEq, Repr

/-- A reference record (Table 3-1). `usedRecal` is the interval that the last successful calibration used: R55 keeps an amended
interval from use until the next one (log 23). -/
structure RefRecord where
  state : RefState
  owner : Byte
  isOpen : Bool
  excitation : Excitation
  span : Half
  recal : Half
  usedRecal : Half
  count : Option (BitVec 22)
  calTime : Option Clock
  lastFault : Option RefFault
  faultTime : Option Clock
  prior : Option RefState
  request : Bool
  users : Nat
  liveUsers : Nat
deriving DecidableEq, Repr

/-! ### Due queue (chapter 5) and converter (chapter 4) -/

/-- A record that may want the converter (R92). -/
inductive Record where
  | ref (r : RefId)
  | point (p : Slot)
deriving DecidableEq, Repr

/-- An entry of the due queue (R92). -/
structure QueueEntry where
  record : Record
  due : Clock
  mark : Bool
deriving DecidableEq, Repr

/-- What the measuring oscillator is connected to (R65). -/
inductive AnalogInput where
  | sensor (i : SensorId)
  | reference (r : RefId)
deriving DecidableEq, Repr

/-- A job snapshot (R65), with the due time that its entry had when it was taken, which a return needs (R70). -/
structure Job where
  record : Record
  input : AnalogInput
  excitation : Excitation
  span : Half
  count : Option (BitVec 22)
  start : Clock
  due : Clock
deriving DecidableEq, Repr

/-- The five converter states with the current job of those that have one (Table 4-1). -/
inductive ConverterState where
  | idle
  | supplyCheck (job : Job)
  | referencePhase (job : Job)
  | sensorPhase (job : Job)
  | hold
deriving DecidableEq, Repr

/-- The converter: its state and its two counters (Figure 4-1). -/
structure Converter where
  state : ConverterState
  measurement : BitVec 18
  timeBase : BitVec 22
deriving DecidableEq, Repr

/-! ### Drive channels (chapter 7) -/

inductive Polarity where
  | activeHigh | activeLow
deriving DecidableEq, Repr

inductive DriveMode where
  | own | follow
deriving DecidableEq, Repr

/-- The four levels of a channel (Table 7-1). -/
structure Levels where
  normal : Half
  low : Half
  high : Half
  safe : Half
deriving DecidableEq, Repr

/-- A drive channel record (Table 7-1) and the channel counter (R133), held at the count of the channel's last event. -/
structure DriveChannel where
  owner : Byte
  enabled : Bool
  polarity : Polarity
  mode : DriveMode
  activePeriod : Half
  activeDuty : Half
  pendingPeriod : Option Half
  pendingDuty : Option Half
  levels : Levels
  manualDuty : Half
  binding : Option Slot
  counter : Half
deriving DecidableEq, Repr

/-! ### Indicator matrix (chapter 8) -/

/-- The on-time of a cell in a row slot (R153): 0, 250 or 1,750 microseconds. -/
inductive Brightness where
  | off | dim | full
deriving DecidableEq, Repr

/-- Where in its slot the scan stands (R153): at the start, patterns not yet taken; in the part where the row is driven; in the
blanking gap. -/
inductive ScanStage where
  | slotStart | lit | blanking
deriving DecidableEq, Repr

structure Matrix where
  row : Fin 6
  stage : ScanStage
  enableCopy : Bool
  lampTestCopy : Bool
  onTimes : Vector Brightness 8
  columns : Vector Bool 8
deriving DecidableEq, Repr

/-! ### Notice unit and settings (chapter 9) -/

/-- The device causes (R167). -/
structure Causes where
  supplyLow : Bool
  lineContention : Bool
  tableCleared : Bool
deriving DecidableEq, Repr

/-- The settings record (Table 9-3). -/
structure Settings where
  floor : BitVec 3
  alertEnable : Bool
  matrixEnable : Bool
  lampTest : Bool
deriving DecidableEq, Repr

/-! ### Line port (chapter 10) -/

/-- Whether a frame was addressed to the part or to all (R175). -/
inductive FrameKind where
  | directed | broadcast
deriving DecidableEq, Repr

/-- The receiver states (Table 10-2). -/
inductive Receiver where
  | addressWait
  | collecting (kind : FrameKind)
  | discarding
deriving DecidableEq, Repr

/-- What is known of a low run of the line (R176, R178, R187). -/
inductive LowRun where
  /-- No low run is under judgement. -/
  | clear
  /-- An all-low character has been received and the line has not risen since. -/
  | allLow
  /-- A break has been taken and the line has not risen since. -/
  | broken
  /-- The receiver waits for a falling edge after one bit time of high line. -/
  | settling
deriving DecidableEq, Repr

/-- The reasons of a discard (R181). -/
inductive DiscardReason where
  | length | framing | cut | short | check | source | busy | lineBreak | notBroadcast | preempted
deriving DecidableEq, Repr

/-- An accepted frame in the command buffer (R179). -/
structure CommandFrame where
  kind : FrameKind
  source : Byte
  code : Byte
  payload : List Byte
deriving DecidableEq, Repr

/-- A reply in the reply buffer: for whom, its code, its payload (R182, Table 10-4). -/
structure Reply where
  destination : Byte
  code : Byte
  payload : List Byte
deriving DecidableEq, Repr

/-- A character on the line: its data bits and its mark bit (R174). -/
structure LineCharacter where
  data : Byte
  mark : Bool
deriving DecidableEq, Repr

/-- The line port (Figure 10-1). `sending` holds the characters of the reply that have not been echoed, the first of them on
the line; LINE_DE is high while it is not empty. -/
structure Port where
  rx : Receiver
  buffer : List Byte
  lowRun : LowRun
  command : Option CommandFrame
  turnaround : Bool
  reply : Option Reply
  sending : List LineCharacter
  discardCount : Half
  lastDiscard : Option DiscardReason
deriving DecidableEq, Repr

/-- The whole part. -/
structure State where
  inReset : Bool
  addrStrap : BitVec 3
  rateStrap : BitVec 2
  clock : Clock
  points : Vector (Option PointRecord) 48
  tagMap : Vector (Option Half) 48
  refs : Vector (Option RefRecord) 4
  queue : List QueueEntry
  converter : Converter
  channels : Vector DriveChannel 8
  matrix : Matrix
  noticePoints : Vector Bool 48
  noticeRefs : Vector Bool 4
  causes : Causes
  settings : Settings
  port : Port
  pending : List Instr
deriving DecidableEq, Repr

/-- The converter after hardware reset and after a table clear (R64, R89). -/
def Converter.reset : Converter := { state := .idle, measurement := 0, timeBase := 0 }

/-- A channel after hardware reset and after a table clear (R151). The count at which its counter stands stopped is not given:
DESIGN CHOICE 0, log 8. -/
def DriveChannel.reset : DriveChannel :=
  { owner := 0, enabled := false, polarity := .activeHigh, mode := .own, activePeriod := 1000, activeDuty := 0,
    pendingPeriod := none, pendingDuty := none, levels := ⟨0, 0, 0, 0⟩, manualDuty := 0, binding := none, counter := 0 }

/-- The matrix at the start of the ROW0 slot (R153, R161, Table 8-3). -/
def Matrix.reset : Matrix :=
  { row := 0, stage := .slotStart, enableCopy := true, lampTestCopy := false,
    onTimes := Vector.replicate 8 .off, columns := Vector.replicate 8 false }

/-- The default settings (Table 9-3). -/
def Settings.default : Settings := { floor := 2, alertEnable := true, matrixEnable := true, lampTest := false }

/-- The line port after hardware reset (R190). -/
def Port.reset : Port :=
  { rx := .addressWait, buffer := [], lowRun := .clear, command := none, turnaround := false, reply := none, sending := [],
    discardCount := 0, lastDiscard := none }

/-- The part right after NRESET has risen with every strap low (Table 9-4). The strap levels are DESIGN CHOICE, log 5. -/
def State.reset : State :=
  { inReset := false, addrStrap := 0, rateStrap := 0, clock := 0, points := Vector.replicate 48 none,
    tagMap := Vector.replicate 48 none, refs := Vector.replicate 4 none, queue := [], converter := Converter.reset,
    channels := Vector.replicate 8 DriveChannel.reset, matrix := Matrix.reset, noticePoints := Vector.replicate 48 false,
    noticeRefs := Vector.replicate 4 false, causes := ⟨false, false, true⟩, settings := Settings.default,
    port := Port.reset, pending := [] }

end Sys2Proof.Machine
end

