-- ==== Sys2Proof/Machine/Operands.lean ====
section
/-! DEFINITION. The operand forms: how the bytes of a payload code the fields of a command and of a reply (Tables 10-3 to
10-10), and the frame check (R180). Multi-byte fields are most significant byte first. -/

namespace Sys2Proof.Machine

/-! ### Multi-byte fields -/

/-- Two payload bytes as a 16-bit field, high byte first. -/
def half (hi lo : Byte) : Half := hi ++ lo

/-- A 16-bit field as two payload bytes. -/
def be16 (v : Half) : List Byte := [v.extractLsb' 8 8, v.extractLsb' 0 8]

/-- A 32-bit field as four payload bytes. -/
def be32 (v : Clock) : List Byte :=
  [v.extractLsb' 24 8, v.extractLsb' 16 8, v.extractLsb' 8 8, v.extractLsb' 0 8]

/-- A count as one payload byte. -/
def countByte (n : Nat) : Byte := BitVec.ofNat 8 n

/-- Presence bits, bit 0 first (Tables 10-7 to 10-10). The tables give the bits above the last named one no value; they are sent as
0: DESIGN CHOICE, log 25. -/
def bitsByte : List Bool → Byte
  | [] => 0
  | b :: bs => (bitsByte bs <<< 1) ||| (if b then 1 else 0)

/-! ### Reading coded fields (Table 10-6) -/

/-- off or no 0, on or yes 1 (Table 10-6). -/
def flagCoded (b : Byte) : Bool := decide (b.toNat ≤ 1)

/-- The flag that a coded byte carries. -/
def flagOf (b : Byte) : Bool := b == 1

/-- A drive binding is 0-7 or FFh (Table 10-6, R189). -/
def bindingCoded (b : Byte) : Bool := decide (b.toNat < 8) || b == 0xFF

/-- The binding that a coded byte carries: FFh is none. -/
def bindingOf (b : Byte) : Option ChannelId := if b == 0xFF then none else some (Fin.ofNat 8 b.toNat)

/-- A reference designator is 0-3 (Table 10-6). -/
def refCoded (b : Byte) : Bool := decide (b.toNat < 4)

/-- The reference that a coded byte carries. -/
def refOf (b : Byte) : RefId := Fin.ofNat 4 b.toNat

/-- The sensor input that a coded byte carries. -/
def sensorOf (b : Byte) : SensorId := Fin.ofNat 16 b.toNat

/-- 0 DC, 1 ALTERNATING (Table 10-6). -/
def excitationOf (b : Byte) : Excitation := if b == 1 then .alternating else .dc

/-- 0 ACTIVE_HIGH, 1 ACTIVE_LOW (Table 10-6). -/
def polarityOf (b : Byte) : Polarity := if b == 1 then .activeLow else .activeHigh

/-- 0 OWN, 1 FOLLOW (Table 10-6). -/
def modeOf (b : Byte) : DriveMode := if b == 1 then .follow else .own

/-- The definition fields of DEFINE_POINT and AMEND_POINT as the payload carries them (Table 10-5). -/
structure PointFields where
  tag : Half
  input : Byte
  reference : Byte
  interval : Half
  staleFactor : Byte
  faultLimit : Byte
  bandLow : Half
  bandHigh : Half
  hysteresis : Half
  notify : Byte
  binding : Byte
deriving DecidableEq, Repr

/-- The sixteen bytes from tag to binding; any other number of bytes is no payload of the command (R188 check 1). -/
def pointFieldsOf : List Byte → Option PointFields
  | [tH, tL, input, reference, iH, iL, stale, limit, lowH, lowL, highH, highL, hystH, hystL, notify, binding] =>
    some { tag := half tH tL, input := input, reference := reference, interval := half iH iL, staleFactor := stale,
           faultLimit := limit, bandLow := half lowH lowL, bandHigh := half highH highL, hysteresis := half hystH hystL,
           notify := notify, binding := binding }
  | _ => none

/-- The configuration of CONFIGURE_DRIVE after its channel (Table 10-5). -/
structure DriveFields where
  polarity : Byte
  mode : Byte
  period : Half
  levels : Levels
  manualDuty : Half
deriving DecidableEq, Repr

/-- The eight bytes of the NORMAL, LOW, HIGH and SAFE levels. -/
def levelsOf : List Byte → Option Levels
  | [nH, nL, lH, lL, hH, hL, sH, sL] =>
    some { normal := half nH nL, low := half lH lL, high := half hH hL, safe := half sH sL }
  | _ => none

/-- The fourteen bytes from polarity to manual duty. -/
def driveFieldsOf : List Byte → Option DriveFields
  | [polarity, mode, pH, pL, nH, nL, lH, lL, hH, hL, sH, sL, mH, mL] =>
    some { polarity := polarity, mode := mode, period := half pH pL,
           levels := { normal := half nH nL, low := half lH lL, high := half hH hL, safe := half sH sL },
           manualDuty := half mH mL }
  | _ => none

/-! ### Writing coded fields (Table 10-6) -/

def flagByte (b : Bool) : Byte := if b then 1 else 0

def slotByte (p : Slot) : Byte := BitVec.ofNat 8 p.val

def refByte (r : RefId) : Byte := BitVec.ofNat 8 r.val

def channelByte (c : ChannelId) : Byte := BitVec.ofNat 8 c.val

def sensorByte (i : SensorId) : Byte := BitVec.ofNat 8 i.val

def pointStateByte : PointState → Byte
  | .dormant => 0 | .live => 1 | .held => 2

def qualityByte : Quality → Byte
  | .none => 0 | .good => 1 | .clamped => 2 | .open => 3 | .short => 4 | .refFault => 5 | .stale => 6

def alarmByte : Alarm → Byte
  | .unknown => 0 | .normal => 1 | .low => 2 | .high => 3 | .fault => 4

def refStateByte : RefState → Byte
  | .uncal => 0 | .calibrating => 1 | .valid => 2 | .faulted => 3

def refFaultByte : RefFault → Byte
  | .refOpen => 0 | .refShort => 1

def excitationByte : Excitation → Byte
  | .dc => 0 | .alternating => 1

def polarityByte : Polarity → Byte
  | .activeHigh => 0 | .activeLow => 1

def modeByte : DriveMode → Byte
  | .own => 0 | .follow => 1

def converterByte : ConverterState → Byte
  | .idle => 0 | .supplyCheck _ => 1 | .referencePhase _ => 2 | .sensorPhase _ => 3 | .hold => 4

/-- The last discard reason, 0 when absent (Table 10-6). -/
def discardByte : Option DiscardReason → Byte
  | none => 0
  | some .length => 1 | some .framing => 2 | some .cut => 3 | some .short => 4 | some .check => 5
  | some .source => 6 | some .busy => 7 | some .lineBreak => 8 | some .notBroadcast => 9 | some .preempted => 10

/-! ### Command codes (Table 10-5) -/

/-- The command codes that Table 10-5 lists. -/
def commandCodes : List Byte :=
  [0x10, 0x11, 0x12, 0x13, 0x14, 0x15, 0x16, 0x17,
   0x20, 0x21, 0x22, 0x23,
   0x30, 0x31, 0x32, 0x33, 0x34,
   0x40, 0x41,
   0x50, 0x51, 0x52, 0x53, 0x54, 0x55, 0x56, 0x57,
   0x60,
   0x70, 0x71, 0x72, 0x73, 0x74]

/-- The code of MEASURE_OWNED, the one broadcast command (R107, R183). -/
def measureOwnedCode : Byte := 0x41

/-! ### Reply codes (Table 10-3) -/

/-- The refusals of Table 10-3. -/
inductive ReplyCode where
  | unknownCommand | badLength | badSlot | slotTaken | slotEmpty | tableFull | notFound | tagTaken | notOwner | wrongState
  | inUse | badValue | badBand | modeConflict | channelOn | inFlight | noOffer | notShared
deriving DecidableEq, Repr

def replyByte : ReplyCode → Byte
  | .unknownCommand => 0x10 | .badLength => 0x11 | .badSlot => 0x12 | .slotTaken => 0x13 | .slotEmpty => 0x14
  | .tableFull => 0x15 | .notFound => 0x16 | .tagTaken => 0x17 | .notOwner => 0x18 | .wrongState => 0x19
  | .inUse => 0x1A | .badValue => 0x1B | .badBand => 0x1C | .modeConflict => 0x1D | .channelOn => 0x1E
  | .inFlight => 0x1F | .noOffer => 0x20 | .notShared => 0x21

/-- The code OK (Table 10-3). -/
def okCode : Byte := 0x00

/-- The code ACCEPTED of CALIBRATE_REF (Table 10-3). -/
def acceptedCode : Byte := 0x01

/-! ### The frame check (R180) -/

/-- One bit taken into the check register: polynomial 1021h. -/
def crcBit (crc : BitVec 16) (bit : Bool) : BitVec 16 :=
  if (crc.msb ^^ bit) then (crc <<< 1) ^^^ 0x1021#16 else crc <<< 1

/-- One byte taken into the check register, most significant bit first. -/
def crcByte (crc : BitVec 16) (b : Byte) : BitVec 16 :=
  [7, 6, 5, 4, 3, 2, 1, 0].foldl (fun c i => crcBit c (b.getLsbD i)) crc

/-- The check value of a run of bytes: the register starts at FFFFh and is not inverted. -/
def frameCheck (bytes : List Byte) : BitVec 16 := bytes.foldl crcByte 0xFFFF

/-- A reply as the characters of its frame (R186, Table 10-4): the destination as an address character, then the drop address
of the part, the code, the length, the payload and the check over all data characters before it. -/
def replyCharacters (drop : Byte) (r : Reply) : List LineCharacter :=
  let body := drop :: r.code :: countByte r.payload.length :: r.payload
  { data := r.destination, mark := true } :: (body ++ be16 (frameCheck body)).map fun b => { data := b, mark := false }

end Sys2Proof.Machine
end

