-- ==== Sys2Proof/Machine/Ops.lean ====
section
/-! DEFINITION. The named operations over the tables that every meaning is built from: writes of one field of State, the clock
comparison, the due queue, user counts, drive requests, aborts, and the completion of a command with its reply. -/

namespace Sys2Proof.Machine

/-- What a row answers. -/
abbrev Step := Host.Outcome State Fault Refusal

/-! ### Writing one field of State -/

def State.setPoint (s : State) (p : Slot) (r : Option PointRecord) : State := { s with points := s.points.set p r }

def State.setTag (s : State) (p : Slot) (t : Option Half) : State := { s with tagMap := s.tagMap.set p t }

def State.setRef (s : State) (r : RefId) (x : Option RefRecord) : State := { s with refs := s.refs.set r x }

def State.setChannel (s : State) (c : ChannelId) (x : DriveChannel) : State := { s with channels := s.channels.set c x }

def State.setQueue (s : State) (q : List QueueEntry) : State := { s with queue := q }

def State.setConverter (s : State) (c : Converter) : State := { s with converter := c }

def State.setMatrix (s : State) (m : Matrix) : State := { s with matrix := m }

def State.setNoticePoint (s : State) (p : Slot) (b : Bool) : State := { s with noticePoints := s.noticePoints.set p b }

def State.setNoticeRef (s : State) (r : RefId) (b : Bool) : State := { s with noticeRefs := s.noticeRefs.set r b }

def State.setCauses (s : State) (c : Causes) : State := { s with causes := c }

def State.setSettings (s : State) (c : Settings) : State := { s with settings := c }

def State.setPort (s : State) (p : Port) : State := { s with port := p }

/-! ### The schedule clock (section 5.1) -/

/-- `a` is at or before `b`: their difference modulo 2^32 read as a signed number is not negative (R91). -/
def atOrBefore (a b : Clock) : Bool := decide ((b - a).toNat ≤ 2147483647)

/-- `a` is after `b` (R91). -/
def isAfter (a b : Clock) : Bool := !atOrBefore a b

/-- `a` is earlier than `b` (R91). -/
def isEarlier (a b : Clock) : Bool := atOrBefore a b && a != b

/-- A refresh interval in milliseconds, on the clock (R3, R104). -/
def intervalMs (interval : Half) : Clock := interval.setWidth 32 * 10

/-- interval × 10 ms × stale factor (R3). -/
def freshnessLimit (interval : Half) (staleFactor : Byte) : Clock := intervalMs interval * staleFactor.setWidth 32

/-- A number of seconds in milliseconds, on the clock (R36, R97, R158). -/
def secondsMs (seconds : Clock) : Clock := seconds * 1000

/-! ### The due queue (section 5.2) -/

/-- The order of two records at equal marks and due times: references before points, then the lower (R94 tests 3 and 4). -/
def recordPrecedes : Record → Record → Bool
  | .ref a, .ref b => decide (a < b)
  | .ref _, .point _ => true
  | .point _, .ref _ => false
  | .point a, .point b => decide (a < b)

/-- Entry `x` precedes entry `y` (R94). Due times are compared by R91 also between two marked entries, where a time more than
2,147,483,647 ms behind the other reads as the later one, although R93 says that a long-held entry is still taken first: DESIGN
CHOICE, log 27. -/
def precedes (x y : QueueEntry) : Bool :=
  if x.mark != y.mark then x.mark
  else if x.due != y.due then isEarlier x.due y.due
  else recordPrecedes x.record y.record

/-- An entry goes immediately ahead of the first entry that it precedes, or at the tail (R94). -/
def placeEntry (e : QueueEntry) : List QueueEntry → List QueueEntry
  | [] => [e]
  | x :: q => if precedes e x then e :: x :: q else x :: placeEntry e q

/-- The entry of a record in a queue (R92). -/
def entryIn (q : List QueueEntry) (k : Record) : Option QueueEntry := q.find? (fun e => e.record == k)

/-- Insert with a due time: an entry that is there stays as it is; the mark is set if the time is at or before now (R93, R95). -/
def insertInto (q : List QueueEntry) (k : Record) (due now : Clock) : List QueueEntry :=
  if (entryIn q k).isSome then q else placeEntry { record := k, due := due, mark := atOrBefore due now } q

/-- Insert of a job returned unrun: the old due time, with the mark set (R93, R95). -/
def returnInto (q : List QueueEntry) (k : Record) (due : Clock) : List QueueEntry :=
  if (entryIn q k).isSome then q else placeEntry { record := k, due := due, mark := true } q

/-- Remove: the entry of the record leaves the queue (R95). -/
def removeFrom (q : List QueueEntry) (k : Record) : List QueueEntry := q.filter (fun e => e.record != k)

/-- Move to a due time: taken out and placed again; nothing when the record has no entry (R95). -/
def moveWithin (q : List QueueEntry) (k : Record) (due now : Clock) : List QueueEntry :=
  if (entryIn q k).isSome then placeEntry { record := k, due := due, mark := atOrBefore due now } (removeFrom q k) else q

/-- The entry of a record (R92). -/
def State.entryOf (s : State) (k : Record) : Option QueueEntry := entryIn s.queue k

def State.insertEntry (s : State) (k : Record) (due : Clock) : State := s.setQueue (insertInto s.queue k due s.clock)

def State.returnEntry (s : State) (k : Record) (due : Clock) : State := s.setQueue (returnInto s.queue k due)

def State.removeEntry (s : State) (k : Record) : State := s.setQueue (removeFrom s.queue k)

def State.moveEntry (s : State) (k : Record) (due : Clock) : State := s.setQueue (moveWithin s.queue k due s.clock)

/-- A point's entry is brought forward: moved to now unless its mark is set (R105). -/
def bringForward (now : Clock) (q : List QueueEntry) (p : Slot) : List QueueEntry :=
  match entryIn q (.point p) with
  | some e => if e.mark then q else moveWithin q (.point p) now now
  | none => q

/-! ### The current job (sections 4.1 and 4.6) -/

/-- The current job, in SUPPLY_CHECK and the two phases (Table 4-1). -/
def ConverterState.job : ConverterState → Option Job
  | .supplyCheck j => some j
  | .referencePhase j => some j
  | .sensorPhase j => some j
  | .idle => none
  | .hold => none

/-- A record is the current job. -/
def State.isCurrent (s : State) (k : Record) : Bool :=
  match s.converter.state.job with
  | some j => j.record == k
  | none => false

/-- Abort of a record's job: the converter becomes IDLE with nothing delivered and its counters discarded (R84). Nothing when
the record is not the current job. The counters that R84 discards are cleared, as R89 says: log 7. -/
def State.abortJob (s : State) (k : Record) : State :=
  if s.isCurrent k then s.setConverter Converter.reset else s

/-! ### Reference counts (section 3.3) -/

/-- The due time that a reference gains with its first live user (Table 5-3, lines 1 to 3). The interval is the one that the last
successful calibration used, since an amended one is first used by the next (R55): log 23. -/
def refDue (x : RefRecord) (now : Clock) : Clock :=
  match x.state with
  | .valid =>
    match x.calTime with
    | some c => if atOrBefore now (c + secondsMs (x.usedRecal.setWidth 32)) && atOrBefore c now
                then c + secondsMs (x.usedRecal.setWidth 32) else now
    | none => now
  | .faulted =>
    match x.faultTime with
    | some f => if atOrBefore now (f + 1000) && atOrBefore f now then f + 1000 else now
    | none => now
  | .uncal => now
  | .calibrating => now

/-- The user count of a reference rises by 1 (R50). -/
def State.gainUser (s : State) (r : RefId) : State :=
  match s.refs[r] with
  | some x => s.setRef r (some { x with users := x.users + 1 })
  | none => s

/-- The user count of a reference falls by 1 (R50). -/
def State.loseUser (s : State) (r : RefId) : State :=
  match s.refs[r] with
  | some x => s.setRef r (some { x with users := x.users - 1 })
  | none => s

/-- The live-user count rises by 1; from 0 to 1 the reference gains an entry unless it is the current job or has one (R50, R98). -/
def State.gainLiveUser (s : State) (r : RefId) : State :=
  match s.refs[r] with
  | some x =>
    let t := s.setRef r (some { x with liveUsers := x.liveUsers + 1 })
    if x.liveUsers == 0 && !s.isCurrent (.ref r) then t.insertEntry (.ref r) (refDue x s.clock) else t
  | none => s

/-- The live-user count falls by 1; from 1 to 0 the reference's entry is removed unless a request is outstanding (R50, R98). -/
def State.loseLiveUser (s : State) (r : RefId) : State :=
  match s.refs[r] with
  | some x =>
    let t := s.setRef r (some { x with liveUsers := x.liveUsers - 1 })
    if x.liveUsers == 1 && !x.request then t.removeEntry (.ref r) else t
  | none => s

/-! ### Drive requests (section 7.3) -/

/-- The level that an alarm state names (R136). -/
def levelFor (a : Alarm) (l : Levels) : Half :=
  match a with
  | .normal => l.normal
  | .low => l.low
  | .high => l.high
  | .unknown => l.safe
  | .fault => l.safe

/-- A channel that has received a request for a pending duty; a follower receives none (R137). -/
def DriveChannel.request (x : DriveChannel) (duty : Half) : DriveChannel :=
  if x.mode == .own then { x with pendingDuty := some duty } else x

/-- The request of a point for the level of an alarm state on its bound channel, if it has one (R122). -/
def State.requestLevel (s : State) (binding : Option ChannelId) (a : Alarm) : State :=
  match binding with
  | some c => s.setChannel c (s.channels[c].request (levelFor a s.channels[c].levels))
  | none => s

/-- A channel taken up by a point: bound, with the level of the point's alarm state pending (R147). -/
def DriveChannel.takenUp (x : DriveChannel) (p : Slot) (a : Alarm) : DriveChannel :=
  { x with binding := some p }.request (levelFor a x.levels)

/-- A channel left by its point: unbound, with its manual duty pending (R147). -/
def DriveChannel.left (x : DriveChannel) : DriveChannel := { x with binding := none }.request x.manualDuty

def State.bindChannel (s : State) (binding : Option ChannelId) (p : Slot) (a : Alarm) : State :=
  match binding with
  | some c => s.setChannel c (s.channels[c].takenUp p a)
  | none => s

def State.unbindChannel (s : State) (binding : Option ChannelId) : State :=
  match binding with
  | some c => s.setChannel c s.channels[c].left
  | none => s

/-- A bound channel moves to a new owner with its point (R148). -/
def State.moveChannelOwner (s : State) (binding : Option ChannelId) (owner : Byte) : State :=
  match binding with
  | some c => s.setChannel c { s.channels[c] with owner := owner }
  | none => s

/-- The alarm state that a bound channel follows. A slot that is VACANT, which no binding names (R146), reads UNKNOWN: log 16. -/
def State.alarmOf (s : State) (p : Slot) : Alarm :=
  match s.points[p] with
  | some r => r.alarm
  | none => .unknown

/-- The duty that FOLLOW copies: D0's active duty, or 0 when D0 is disabled (R135). -/
def State.followDuty (s : State) : Half :=
  if s.channels[(0 : Fin 8)].enabled then s.channels[(0 : Fin 8)].activeDuty else 0

/-- The duty that a channel's current source calls for (R136). -/
def State.calledFor (s : State) (c : ChannelId) : Half :=
  match s.channels[c].mode with
  | .follow => s.followDuty
  | .own =>
    match s.channels[c].binding with
    | some p => levelFor (s.alarmOf p) s.channels[c].levels
    | none => s.channels[c].manualDuty

/-! ### Ownership (chapter 2) -/

/-- The source may change a record of this owner (R28). -/
def mayChange (source owner : Byte) : Bool := source == owner || source == Config.service

/-- The open-reference test for a point of this owner (R31). -/
def sharedWith (x : RefRecord) (owner : Byte) : Bool := x.owner == owner || x.isOpen || owner == Config.service

/-! ### The tag map (R4) -/

/-- The slot that the map pairs with a tag. -/
def State.slotOfTag (s : State) (t : Half) : Option Slot := (List.finRange 48).find? (fun p => s.tagMap[p] == some t)

/-- The map holds the tag for a slot other than `p`. -/
def State.tagElsewhere (s : State) (t : Half) (p : Slot) : Bool :=
  (List.finRange 48).any (fun q => q != p && s.tagMap[q] == some t)

/-! ### Completing a command (section 10.4 and 10.5) -/

/-- What the executor answers to a command: a refusal, which changes no state (R188), or OK or ACCEPTED with the tables as the
command leaves them. -/
inductive Answer where
  | refuse (code : ReplyCode)
  | ok (s : State) (payload : List Byte)
  | accepted (s : State)
deriving DecidableEq

/-- One check of the general check order: the first that fails decides the reply (R188). -/
def require (passes : Bool) (code : ReplyCode) (rest : Answer) : Answer := if passes then rest else .refuse code

/-- Checks 2 and 3 of a command that names a point: BAD_SLOT, SLOT_EMPTY (R188). -/
def onPoint (slot : Byte) (s : State) (rest : Slot → PointRecord → Answer) : Answer :=
  if h : slot.toNat < 48 then
    match s.points[(⟨slot.toNat, h⟩ : Slot)] with
    | some r => rest ⟨slot.toNat, h⟩ r
    | none => .refuse .slotEmpty
  else .refuse .badSlot

/-- Checks 2 and 3 of a command that names a defined reference: BAD_SLOT, SLOT_EMPTY (R52). -/
def onRef (designator : Byte) (s : State) (rest : RefId → RefRecord → Answer) : Answer :=
  if h : designator.toNat < 4 then
    match s.refs[(⟨designator.toNat, h⟩ : RefId)] with
    | some x => rest ⟨designator.toNat, h⟩ x
    | none => .refuse .slotEmpty
  else .refuse .badSlot

/-- Check 2 of a drive command: BAD_SLOT (R138). -/
def onChannel (channel : Byte) (rest : ChannelId → Answer) : Answer :=
  if h : channel.toNat < 8 then rest ⟨channel.toNat, h⟩ else .refuse .badSlot

/-- The command buffer is freed, and the reply of a directed frame is placed in the reply buffer while its turnaround lasts
(R182). A turnaround that has ended takes no reply: the reply to come was dropped (R185). -/
def State.deliver (s : State) (f : CommandFrame) (code : Byte) (payload : List Byte) : State :=
  s.setPort { s.port with
    command := none
    reply := if f.kind == .directed && s.port.turnaround then some ⟨f.source, code, payload⟩ else s.port.reply }

/-- The completion of frame `f` with an answer (R182). -/
def State.finish (s : State) (f : CommandFrame) : Answer → State
  | .refuse code => s.deliver f (replyByte code) []
  | .ok t payload => t.deliver f okCode payload
  | .accepted t => t.deliver f acceptedCode []

/-- The row that completes the command of a code: it takes place when the command buffer holds a frame of that code and the part
is not held in reset (R182, R190). Otherwise nothing happens: log 2. -/
def complete (code : Byte) (command : Byte → List Byte → State → Answer) (s : State) : Step :=
  match s.inReset, s.port.command with
  | false, some f => if f.code == code then .next (s.finish f (command f.source f.payload s)) else .next s
  | _, _ => .next s

/-- A row that the part takes only while it is not held in reset (R173, R190). -/
def running (s : State) (t : State) : Step := if s.inReset then .next s else .next t

end Sys2Proof.Machine
end

