-- ==== Sys2Proof/Machine/Flags.lean ====
section
/-! DEFINITION. The notice set and the device causes (sections 9.1 and 9.3). -/

namespace Sys2Proof.Machine

/-- A point slot joins the notice set (R163). -/
def State.joinPoint (s : State) (p : Slot) : State := s.setNoticePoint p true

/-- A point slot leaves the notice set (R164). -/
def State.leavePoint (s : State) (p : Slot) : State := s.setNoticePoint p false

/-- A reference joins the notice set (R163). -/
def State.joinRef (s : State) (r : RefId) : State := s.setNoticeRef r true

/-- A reference leaves the notice set (R164). -/
def State.leaveRef (s : State) (r : RefId) : State := s.setNoticeRef r false

/-- SUPPLY_LOW is set (R70, R167). -/
def State.setSupplyLow (s : State) : State := s.setCauses { s.causes with supplyLow := true }

/-- LINE_CONTENTION is set (R167, R187). -/
def State.setContention (s : State) : State := s.setCauses { s.causes with lineContention := true }

/-- TABLE_CLEARED is set (R167, R172). -/
def State.setTableCleared (s : State) : State := s.setCauses { s.causes with tableCleared := true }

/-- The notice set holds at least one member. -/
def State.noticesWaiting (s : State) : Bool :=
  (List.finRange 48).any (fun p => s.noticePoints[p]) || (List.finRange 4).any (fun r => s.noticeRefs[r])

/-- At least one device cause is set. -/
def Causes.any (c : Causes) : Bool := c.supplyLow || c.lineContention || c.tableCleared

/-- ALERT is driven low (R169, Table 9-2); it is released while NRESET is low. -/
def State.alertLow (s : State) : Bool :=
  !s.inReset && s.settings.alertEnable && (s.noticesWaiting || s.causes.any)

end Sys2Proof.Machine
end

