-- ==== Sys2Proof/Machine/Evaluator.lean ====
section
/-! DEFINITION. The result evaluator and point health (chapter 6), and the timed fields of a point: freshness, offer and locate
expiry. -/

namespace Sys2Proof.Machine

/-- The classification of a value without hysteresis (R114, R115). -/
def classify (r : PointRecord) (v : Half) : Alarm :=
  if v.toNat < r.bandLow.toNat then .low
  else if r.bandHigh.toNat < v.toNat then .high
  else .normal

/-- The judgement of a value from the alarm state that the record holds (R114 to R117). -/
def judge (r : PointRecord) (v : Half) : Alarm :=
  match r.alarm with
  | .unknown => classify r v
  | .fault => classify r v
  | .normal => classify r v
  | .low =>
    if r.bandLow.toNat + r.hysteresis.toNat ≤ v.toNat then
      if r.bandHigh.toNat < v.toNat then .high else .normal
    else .low
  | .high =>
    if v.toNat + r.hysteresis.toNat ≤ r.bandHigh.toNat then
      if v.toNat < r.bandLow.toNat then .low else .normal
    else .high

/-- What a change of the judgement hands on: the slot joins the notice set if notify is on, and the bound channel is asked for
the level of the new alarm state (R121, R122). -/
def State.announce (s : State) (p : Slot) (r : PointRecord) (a : Alarm) : State :=
  (if r.notify then s.joinPoint p else s).requestLevel r.binding a

/-- The record after a measurement (R113). -/
def measuredRecord (r : PointRecord) (v : Half) (q : Quality) (now : Clock) : PointRecord :=
  { r with
    lastValue := some v
    quality := q
    resultTime := some now
    deadline := some (now + freshnessLimit r.interval r.staleFactor)
    faults := 0
    alarm := judge r v }

/-- A measurement outcome is applied to a point: the record, the re-queue, and what a change of alarm state hands on (R113). -/
def State.evaluateMeasurement (s : State) (p : Slot) (start : Clock) (v : Half) (q : Quality) : State :=
  match s.points[p] with
  | some r =>
    let t := (s.setPoint p (some (measuredRecord r v q s.clock))).insertEntry (.point p) (start + intervalMs r.interval)
    if judge r v != r.alarm then t.announce p r (judge r v) else t
  | none => s

/-- A fault outcome brings the count to the fault limit (R120). -/
def reachesLimit (r : PointRecord) : Bool := decide (r.faultLimit.toNat ≤ r.faults + 1)

/-- The record after a fault outcome (R119, R120, Table 6-2). -/
def faultedRecord (r : PointRecord) (q : Quality) : PointRecord :=
  { r with
    state := if reachesLimit r then .held else r.state
    quality := q
    faults := r.faults + 1
    alarm := .fault
    deadline := if reachesLimit r then none else r.deadline }

/-- A fault outcome is applied to a point: OPEN, SHORT or REF_FAULT (R119, R120, R123). -/
def State.evaluateFault (s : State) (p : Slot) (start : Clock) (q : Quality) : State :=
  match s.points[p] with
  | some r =>
    let t := s.setPoint p (some (faultedRecord r q))
    let u := if reachesLimit r then t.loseLiveUser r.reference
             else t.insertEntry (.point p) (start + intervalMs r.interval)
    if r.alarm != .fault || reachesLimit r then u.announce p r .fault else u
  | none => s

/-- The time of a timed field has come: it is present and at or before now (R91). -/
def hasCome (time : Option Clock) (now : Clock) : Bool :=
  match time with
  | some t => atOrBefore t now
  | none => false

/-- Freshness deadline expiry of a slot (R125). -/
def State.expireDeadline (s : State) (p : Slot) : State :=
  match s.points[p] with
  | some r =>
    if r.state == .live && hasCome r.deadline s.clock then
      if r.alarm == .fault then s.setPoint p (some { r with deadline := none })
      else (s.setPoint p (some { r with quality := .stale, alarm := .fault, deadline := none })).announce p r .fault
    else s
  | none => s

/-- Offer expiry of a slot (R41). -/
def State.expireOffer (s : State) (p : Slot) : State :=
  match s.points[p] with
  | some r =>
    if hasCome (r.offer.map Offer.expiry) s.clock then
      let t := s.setPoint p (some { r with offer := none })
      if r.notify then t.joinPoint p else t
    else s
  | none => s

/-- Locate expiry of a slot (R159). -/
def State.expireLocate (s : State) (p : Slot) : State :=
  match s.points[p] with
  | some r => if hasCome r.locate s.clock then s.setPoint p (some { r with locate := none }) else s
  | none => s

/-- FRESHNESS_DEADLINE_EXPIRY (R125). -/
def execFreshnessDeadlineExpiry (slot : Slot) (s : State) : Step := running s (s.expireDeadline slot)

/-- OFFER_EXPIRY (R41). -/
def execOfferExpiry (slot : Slot) (s : State) : Step := running s (s.expireOffer slot)

/-- LOCATE_EXPIRY (R159). -/
def execLocateExpiry (slot : Slot) (s : State) : Step := running s (s.expireLocate slot)

end Sys2Proof.Machine
end

