-- ==== Sys2Proof/Machine/References.lean ====
section
/-! DEFINITION. The reference commands (chapter 3) and the reference table's side of a reference job (R57 to R60). -/

namespace Sys2Proof.Machine

/-- Span and recalibration interval, open flag and excitation within range where present (R53 check 6, R54 check 6). Bits are
numbered as the AMEND_REF mask (Table 10-6). -/
def refFieldsInRange (present : Nat → Bool) (isOpen excitation : Byte) (span recal : Half) : Bool :=
  (!present 0 || flagCoded isOpen) && (!present 1 || flagCoded excitation) &&
  (!present 2 || decide (256 ≤ span.toNat)) && (!present 3 || recal != 0)

/-- The record that DEFINE_REF fills in (R53). -/
def definedRef (source isOpen excitation : Byte) (span recal : Half) : RefRecord :=
  { state := .uncal, owner := source, isOpen := flagOf isOpen, excitation := excitationOf excitation, span := span,
    recal := recal, usedRecal := recal, count := none, calTime := none, lastFault := none, faultTime := none, prior := none,
    request := false, users := 0, liveUsers := 0 }

def defineRef (source : Byte) (payload : List Byte) (s : State) : Answer :=
  match payload with
  | [designator, isOpen, excitation, spanH, spanL, recalH, recalL] =>
    require (refCoded designator) .badSlot <|
    require (s.refs[refOf designator]).isNone .slotTaken <|
    require (refFieldsInRange (fun _ => true) isOpen excitation (half spanH spanL) (half recalH recalL)) .badValue <|
    .ok (s.setRef (refOf designator)
      (some (definedRef source isOpen excitation (half spanH spanL) (half recalH recalL)))) []
  | _ => .refuse .badLength

/-- Span, excitation or recalibration interval is present (R54). -/
def timingPresent (mask : Byte) : Bool := mask.getLsbD 1 || mask.getLsbD 2 || mask.getLsbD 3

/-- The closing test: every non-vacant point bound to the reference passes with the reference closed (R34). -/
def State.closingTest (s : State) (r : RefId) (x : RefRecord) : Bool :=
  (List.finRange 48).all fun p =>
    match s.points[p] with
    | some q => q.reference != r || sharedWith { x with isOpen := false } q.owner
    | none => true

/-- The record after an amendment (R55): a changed span or excitation makes a VALID or FAULTED reference UNCAL without a count; a new
interval is stored, and `usedRecal` stays until the next successful calibration. -/
def amendedRef (mask : Byte) (isOpen excitation : Byte) (span recal : Half) (x : RefRecord) : RefRecord :=
  let y := { x with
    isOpen := if mask.getLsbD 0 then flagOf isOpen else x.isOpen
    excitation := if mask.getLsbD 1 then excitationOf excitation else x.excitation
    span := if mask.getLsbD 2 then span else x.span
    recal := if mask.getLsbD 3 then recal else x.recal }
  if (y.span != x.span || y.excitation != x.excitation) && (x.state == .valid || x.state == .faulted) then
    { y with state := .uncal, count := none }
  else y

def amendRef (source : Byte) (payload : List Byte) (s : State) : Answer :=
  match payload with
  | [designator, mask, isOpen, excitation, spanH, spanL, recalH, recalL] =>
    onRef designator s fun r x =>
    require (mayChange source x.owner) .notOwner <|
    require (!(x.state == .calibrating && timingPresent mask)) .wrongState <|
    require (decide (mask.toNat < 16) &&
      refFieldsInRange mask.getLsbD isOpen excitation (half spanH spanL) (half recalH recalL)) .badValue <|
    require (!(timingPresent mask && decide (0 < x.liveUsers))) .inUse <|
    require (!(mask.getLsbD 0 && !flagOf isOpen && x.isOpen) || s.closingTest r x) .inUse <|
    .ok (s.setRef r (some (amendedRef mask isOpen excitation (half spanH spanL) (half recalH recalL) x))) []
  | _ => .refuse .badLength

/-- The queue's part of CALIBRATE_REF: an entry is inserted due now, or brought to now when it is due after now (R56). The due time
is compared by R91 whatever the mark: DESIGN CHOICE, log 24. -/
def State.callCalibration (s : State) (r : RefId) : State :=
  match s.entryOf (.ref r) with
  | some e => if isAfter e.due s.clock then s.moveEntry (.ref r) s.clock else s
  | none => s.insertEntry (.ref r) s.clock

def calibrateRef (source : Byte) (payload : List Byte) (s : State) : Answer :=
  match payload with
  | [designator] =>
    onRef designator s fun r x =>
    require (mayChange source x.owner) .notOwner <|
    require (x.state != .calibrating) .inFlight <|
    .accepted ((s.setRef r (some { x with request := true })).callCalibration r)
  | _ => .refuse .badLength

/-- The READ_REF reply payload (Table 10-8); an absent field is sent as zeros (R189). -/
def refReply (r : RefId) (x : RefRecord) (due : Option Clock) : List Byte :=
  [refByte r, refStateByte x.state, x.owner, flagByte x.isOpen, excitationByte x.excitation] ++ be16 x.span ++
  be16 x.recal ++
  [bitsByte [x.count.isSome, x.calTime.isSome, x.lastFault.isSome, x.prior.isSome, due.isSome]] ++
  be32 ((x.count.getD 0).setWidth 32) ++ be32 (x.calTime.getD 0) ++ [(x.lastFault.map refFaultByte).getD 0] ++
  be32 (x.faultTime.getD 0) ++
  [(x.prior.map refStateByte).getD 0, flagByte x.request, countByte x.users, countByte x.liveUsers] ++ be32 (due.getD 0)

def readRef (_source : Byte) (payload : List Byte) (s : State) : Answer :=
  match payload with
  | [designator] =>
    onRef designator s fun r x => .ok s (refReply r x ((s.entryOf (.ref r)).map QueueEntry.due))
  | _ => .refuse .badLength

/-- The changes of RETIRE_REF (R63, R86). -/
def State.emptyRef (s : State) (r : RefId) : State :=
  (((s.abortJob (.ref r)).removeEntry (.ref r)).leaveRef r).setRef r none

def retireRef (source : Byte) (payload : List Byte) (s : State) : Answer :=
  match payload with
  | [designator] =>
    onRef designator s fun r x =>
    require (mayChange source x.owner) .notOwner <|
    require (x.users == 0) .inUse <|
    .ok (s.emptyRef r) []
  | _ => .refuse .badLength

/-! ### The reference job at the reference table -/

/-- The job starts: CALIBRATING, with the state it began from kept (R57). -/
def startedRef (x : RefRecord) : RefRecord := { x with state := .calibrating, prior := some x.state }

/-- A count is delivered (R58). The calibration uses the interval that the record holds (R55). -/
def calibratedRef (x : RefRecord) (t : BitVec 22) (now : Clock) : RefRecord :=
  { x with state := .valid, usedRecal := x.recal, count := some t, calTime := some now, lastFault := none, faultTime := none,
           prior := none, request := false }

/-- A fault is delivered (R59). -/
def failedRef (x : RefRecord) (f : RefFault) (now : Clock) : RefRecord :=
  { x with state := .faulted, count := none, lastFault := some f, faultTime := some now, prior := none, request := false }

/-- The job is returned unrun: the prior state again (R60). -/
def restoredRef (x : RefRecord) : RefRecord := { x with state := x.prior.getD x.state, prior := none }

/-- A reference outcome of a count T (R58). -/
def State.applyCount (s : State) (r : RefId) (t : BitVec 22) : State :=
  match s.refs[r] with
  | some x =>
    let s1 := s.setRef r (some (calibratedRef x t s.clock))
    let s2 := if x.prior == some .faulted then s1.joinRef r else s1
    if 0 < x.liveUsers then s2.insertEntry (.ref r) (s.clock + secondsMs (x.recal.setWidth 32)) else s2
  | none => s

/-- A reference outcome of a fault (R59). -/
def State.applyRefFault (s : State) (r : RefId) (f : RefFault) : State :=
  match s.refs[r] with
  | some x =>
    let s1 := (s.setRef r (some (failedRef x f s.clock))).joinRef r
    if 0 < x.liveUsers then s1.insertEntry (.ref r) (s.clock + 1000) else s1
  | none => s

/-- A reference job returned unrun: the entry comes back only with live users or a request (R60, R99). -/
def State.returnRef (s : State) (r : RefId) (due : Clock) : State :=
  match s.refs[r] with
  | some x =>
    let s1 := s.setRef r (some (restoredRef x))
    if 0 < x.liveUsers || x.request then s1.returnEntry (.ref r) due else s1
  | none => s

/-! ### The rows -/

/-- DEFINE_REF (R53). -/
def execDefineRef (s : State) : Step := complete 0x30 defineRef s

/-- AMEND_REF (R54, R55). -/
def execAmendRef (s : State) : Step := complete 0x31 amendRef s

/-- CALIBRATE_REF (R56). -/
def execCalibrateRef (s : State) : Step := complete 0x32 calibrateRef s

/-- READ_REF (R62). -/
def execReadRef (s : State) : Step := complete 0x33 readRef s

/-- RETIRE_REF (R63). -/
def execRetireRef (s : State) : Step := complete 0x34 retireRef s

end Sys2Proof.Machine
end

