-- ==== Sys2Proof/Machine/Converter.lean ====
section
/-! DEFINITION. The events of the ratio converter (chapter 4). -/

namespace Sys2Proof.Machine

/-! ### What the counters count (R73, R74) -/

/-- Microhertz in a count of the 4 MHz time base: an oscillator of frequency `f` completes `f * t / timeBaseRate` cycles in `t`
counts. -/
def timeBaseRate : Nat := 4000000000000

/-- The oscillator cycles of one counted cycle: one under DC, under ALTERNATING a reversal pair of two (R73). -/
def cyclesPerCount : Excitation → Nat
  | .dc => 1
  | .alternating => 2

/-- The excitation current runs forward in the oscillator cycle of this index, counted from 0 at the start of the phase: always
under DC, and in every first cycle of a reversal pair under ALTERNATING (R73). -/
def runsForward : Excitation → Nat → Bool
  | .dc, _ => true
  | .alternating, cycle => cycle % 2 == 0

/-- The oscillator cycles that are completed within `t` time base counts: a cycle in progress is not counted (R73, R74). -/
def oscillatorCycles (frequency t : Nat) : Nat := frequency * t / timeBaseRate

/-- The counted cycles among completed oscillator cycles: an unfinished pair is not counted (R73). -/
def countedCycles (e : Excitation) (cycles : Nat) : Nat := cycles / cyclesPerCount e

/-- The whole time base counts that `n` counted cycles take, for an oscillator that is not stopped (R74, R76). -/
def countedTime (e : Excitation) (n frequency : Nat) : Nat := cyclesPerCount e * n * timeBaseRate / frequency

/-- The counted cycles of a sensor phase with a window of `t` counts (R74, R81). -/
def windowCount (e : Excitation) (t frequency : Nat) : Nat := countedCycles e (oscillatorCycles frequency t)

/-- N counted cycles end before the time base counter passes 4,194,303 (R76, R77). -/
def countsInTime (j : Job) (frequency : Nat) : Bool :=
  decide (0 < frequency) && decide (countedTime j.excitation j.span.toNat frequency ≤ 4194303)

/-- The window of a point job: its T. A job without one is ruled out by R65 and R101: log 16. -/
def Job.window (j : Job) : Nat := (j.count.getD 0).toNat

/-! ### The phases -/

/-- The supply floor of a setting, in millivolts (Table 4-2). -/
def floorMillivolts (setting : BitVec 3) : Nat := 2600 + 100 * setting.toNat

/-- The check passes: REFERENCE_PHASE with the counters of R75, or SENSOR_PHASE with those of R79. -/
def State.enterPhase (s : State) (j : Job) : State :=
  match j.record with
  | .ref _ => s.setConverter { state := .referencePhase j, measurement := 0 - j.span.setWidth 18, timeBase := 0 }
  | .point _ => s.setConverter { state := .sensorPhase j, measurement := 0, timeBase := 0 - j.count.getD 0 }

/-- The check fails: the job is returned unrun, SUPPLY_LOW is set, the hold begins (R70). -/
def State.returnUnrun (s : State) (j : Job) : State :=
  let held := s.setConverter { s.converter with state := .hold }
  (match j.record with
   | .ref r => held.returnRef r j.due
   | .point p => held.returnEntry (.point p) j.due).setSupplyLow

/-- A phase ends: the converter becomes IDLE and no count is kept (R77, R78, R83). The counters of an IDLE converter are cleared:
log 7. -/
def State.endPhase (s : State) : State := s.setConverter Converter.reset

/-- The value of a measurement and its quality, from the span N and the count M (R82). -/
def measuredValue (n : Half) (m : Nat) : Half × Quality :=
  let quotient := n.toNat * 16384 / m
  if 65535 < quotient then (65535, .clamped) else (BitVec.ofNat 16 quotient, .good)

/-- The latch of a supply check (R68 to R70). -/
def State.latchSupply (s : State) (vdda : Nat) : State :=
  match s.converter.state with
  | .supplyCheck j => if floorMillivolts s.settings.floor ≤ vdda then s.enterPhase j else s.returnUnrun j
  | _ => s

/-- The hold timer expires (R71). -/
def State.endHold (s : State) : State :=
  match s.converter.state with
  | .hold => s.setConverter { s.converter with state := .idle }
  | _ => s

/-- A reference outcome goes to the reference table (R78). -/
def State.deliverRef (s : State) (j : Job) (outcome : RefId → State → State) : State :=
  match j.record with
  | .ref r => outcome r s
  | .point _ => s

/-- A point outcome goes to the evaluator (R83). -/
def State.deliverPoint (s : State) (j : Job) (outcome : Slot → State → State) : State :=
  match j.record with
  | .point p => outcome p s
  | .ref _ => s

/-- N reference cycles are counted, with the oscillator at this frequency: T is the time that they take (R76). -/
def State.countComplete (s : State) (frequency : Nat) : State :=
  match s.converter.state with
  | .referencePhase j =>
    if countsInTime j frequency then
      let t := countedTime j.excitation j.span.toNat frequency
      s.endPhase.deliverRef j fun r u =>
        if 64 ≤ t then u.applyCount r (BitVec.ofNat 22 t) else u.applyRefFault r .refShort
    else s
  | _ => s

/-- The time base passes its limit before N reference cycles are counted (R77). -/
def State.timeBaseLimit (s : State) (frequency : Nat) : State :=
  match s.converter.state with
  | .referencePhase j =>
    if countsInTime j frequency then s else s.endPhase.deliverRef j fun r u => u.applyRefFault r .refOpen
  | _ => s

/-- The measurement counter passes its limit within the window of a sensor phase (R80). -/
def State.sensorOverflow (s : State) (frequency : Nat) : State :=
  match s.converter.state with
  | .sensorPhase j =>
    if 262143 < windowCount j.excitation j.window frequency then
      s.endPhase.deliverPoint j fun p u => u.evaluateFault p j.start .short
    else s
  | _ => s

/-- The window of T counts ends with the measurement counter within its limit (R81, R82). -/
def State.windowEnd (s : State) (frequency : Nat) : State :=
  match s.converter.state with
  | .sensorPhase j =>
    let m := windowCount j.excitation j.window frequency
    if 262143 < m then s
    else
      s.endPhase.deliverPoint j fun p u =>
        if m < 16 then u.evaluateFault p j.start .open
        else u.evaluateMeasurement p j.start (measuredValue j.span m).1 (measuredValue j.span m).2
  | _ => s

/-! ### The rows -/

/-- SUPPLY_CHECK_LATCH (R68 to R70). -/
def execSupplyCheckLatch (vdda : Nat) (s : State) : Step := running s (s.latchSupply vdda)

/-- HOLD_EXPIRY (R71). -/
def execHoldExpiry (s : State) : Step := running s s.endHold

/-- REFERENCE_COUNT_COMPLETE (R73, R74, R76, R78). -/
def execReferenceCountComplete (frequency : Nat) (s : State) : Step := running s (s.countComplete frequency)

/-- REFERENCE_TIME_BASE_LIMIT (R73, R77, R78). -/
def execReferenceTimeBaseLimit (frequency : Nat) (s : State) : Step := running s (s.timeBaseLimit frequency)

/-- SENSOR_COUNT_OVERFLOW (R73, R80, R83). -/
def execSensorCountOverflow (frequency : Nat) (s : State) : Step := running s (s.sensorOverflow frequency)

/-- SENSOR_WINDOW_END (R73, R74, R81 to R83). -/
def execSensorWindowEnd (frequency : Nat) (s : State) : Step := running s (s.windowEnd frequency)

end Sys2Proof.Machine
end

