-- ==== Sys2Proof/Machine/Drive.lean ====
section
/-! DEFINITION. The drive commands and the events of a channel's counter (chapter 7). -/

namespace Sys2Proof.Machine

/-- Checks 2 and 4 of a drive command other than CONFIGURE_DRIVE and READ_DRIVE: BAD_SLOT, NOT_OWNER (R138). -/
def onOwnedChannel (source channel : Byte) (s : State) (rest : ChannelId → Answer) : Answer :=
  onChannel channel fun c => require (mayChange source s.channels[c].owner) .notOwner (rest c)

/-! ### CONFIGURE_DRIVE -/

/-- A configured channel (R139). -/
def configuredChannel (f : DriveFields) (source : Byte) (x : DriveChannel) : DriveChannel :=
  { x with
    owner := if x.owner == 0 then source else x.owner
    polarity := polarityOf f.polarity
    mode := modeOf f.mode
    activePeriod := f.period
    pendingDuty := none
    levels := f.levels
    manualDuty := f.manualDuty }

/-- CONFIGURE_DRIVE with its channel and fields read (R138, R139). -/
def configureFields (source channel : Byte) (f : DriveFields) (s : State) : Answer :=
  onChannel channel fun c =>
  require (s.channels[c].owner == 0 || mayChange source s.channels[c].owner) .notOwner <|
  require (!s.channels[c].enabled) .channelOn <|
  require (flagCoded f.polarity && flagCoded f.mode && decide (2 ≤ f.period.toNat)) .badValue <|
  require (!(modeOf f.mode == .follow && (c == 0 || s.channels[c].binding.isSome))) .modeConflict <|
  .ok (s.setChannel c (configuredChannel f source s.channels[c])) []

def configureDrive (source : Byte) (payload : List Byte) (s : State) : Answer :=
  match payload with
  | channel :: rest =>
    match driveFieldsOf rest with
    | some f => configureFields source channel f s
    | none => .refuse .badLength
  | [] => .refuse .badLength

/-! ### Levels, manual duty, period -/

/-- A channel after SET_DRIVE_LEVELS: a bound one is asked for its called-for level when that has changed (R140). -/
def levelledChannel (alarm : Option Alarm) (l : Levels) (x : DriveChannel) : DriveChannel :=
  let y := { x with levels := l }
  match alarm with
  | some a => if levelFor a l != levelFor a x.levels then y.request (levelFor a l) else y
  | none => y

/-- The changes of SET_DRIVE_LEVELS (R140). -/
def State.setLevels (s : State) (c : ChannelId) (l : Levels) : State :=
  s.setChannel c (levelledChannel (s.channels[c].binding.map s.alarmOf) l s.channels[c])

def setDriveLevels (source : Byte) (payload : List Byte) (s : State) : Answer :=
  match payload with
  | channel :: rest =>
    match levelsOf rest with
    | some l => onOwnedChannel source channel s fun c => .ok (s.setLevels c l) []
    | none => .refuse .badLength
  | [] => .refuse .badLength

/-- A channel after SET_MANUAL_DUTY: an unbound one in OWN mode is asked for the duty when it has changed (R141). -/
def manualChannel (duty : Half) (x : DriveChannel) : DriveChannel :=
  let y := { x with manualDuty := duty }
  if x.binding == none && duty != x.manualDuty then y.request duty else y

def setManualDuty (source : Byte) (payload : List Byte) (s : State) : Answer :=
  match payload with
  | [channel, hi, lo] => onOwnedChannel source channel s fun c => .ok (s.setChannel c (manualChannel (half hi lo) s.channels[c])) []
  | _ => .refuse .badLength

/-- The channel after SET_DRIVE_PERIOD: pending while enabled, configured while disabled (R142). -/
def periodChannel (period : Half) (x : DriveChannel) : DriveChannel :=
  if x.enabled then { x with pendingPeriod := some period } else { x with activePeriod := period }

def setDrivePeriod (source : Byte) (payload : List Byte) (s : State) : Answer :=
  match payload with
  | [channel, hi, lo] =>
    onOwnedChannel source channel s fun c =>
    require (decide (2 ≤ (half hi lo).toNat)) .badValue <|
    .ok (s.setChannel c (periodChannel (half hi lo) s.channels[c])) []
  | _ => .refuse .badLength

/-! ### Enabling, disabling, releasing, reading -/

/-- The channel after ENABLE_DRIVE (R143); a pending period, which a disabled channel does not hold, is cleared (R137). -/
def enabledChannel (duty : Half) (x : DriveChannel) : DriveChannel :=
  { x with enabled := true, counter := 0, activeDuty := duty, pendingPeriod := none, pendingDuty := none }

def enableDrive (source : Byte) (payload : List Byte) (s : State) : Answer :=
  match payload with
  | [channel] =>
    onOwnedChannel source channel s fun c =>
    require (!s.channels[c].enabled) .channelOn <|
    .ok (s.setChannel c (enabledChannel (s.calledFor c) s.channels[c])) []
  | _ => .refuse .badLength

/-- The channel after DISABLE_DRIVE (R144). -/
def disabledChannel (x : DriveChannel) : DriveChannel :=
  { x with enabled := false, pendingPeriod := none, pendingDuty := none }

def disableDrive (source : Byte) (payload : List Byte) (s : State) : Answer :=
  match payload with
  | [channel] =>
    onOwnedChannel source channel s fun c => .ok (s.setChannel c (disabledChannel s.channels[c])) []
  | _ => .refuse .badLength

def releaseDrive (source : Byte) (payload : List Byte) (s : State) : Answer :=
  match payload with
  | [channel] =>
    onOwnedChannel source channel s fun c =>
    require (!s.channels[c].enabled) .channelOn <|
    require (s.channels[c].binding == none) .inUse <|
    .ok (s.setChannel c { s.channels[c] with owner := 0 }) []
  | _ => .refuse .badLength

/-- The READ_DRIVE reply payload (Table 10-9); an absent field is sent as zeros (R189). -/
def channelReply (c : ChannelId) (x : DriveChannel) (called : Half) : List Byte :=
  [channelByte c, x.owner, flagByte x.enabled, polarityByte x.polarity, modeByte x.mode] ++ be16 x.activePeriod ++
  be16 x.activeDuty ++ [bitsByte [x.pendingPeriod.isSome, x.pendingDuty.isSome, x.binding.isSome]] ++
  be16 (x.pendingPeriod.getD 0) ++ be16 (x.pendingDuty.getD 0) ++ be16 x.levels.normal ++ be16 x.levels.low ++
  be16 x.levels.high ++ be16 x.levels.safe ++ be16 x.manualDuty ++ [(x.binding.map slotByte).getD 0] ++ be16 called

def readDrive (_source : Byte) (payload : List Byte) (s : State) : Answer :=
  match payload with
  | [channel] => onChannel channel fun c => .ok s (channelReply c s.channels[c] (s.calledFor c))
  | _ => .refuse .badLength

/-! ### The counter (R133 to R135) -/

/-- An enabled channel at its period boundary (R134, R135). -/
def boundaryChannel (followDuty : Half) (x : DriveChannel) : DriveChannel :=
  match x.mode with
  | .own =>
    { x with activePeriod := x.pendingPeriod.getD x.activePeriod, pendingPeriod := none,
             activeDuty := x.pendingDuty.getD x.activeDuty, pendingDuty := none, counter := 0 }
  | .follow =>
    { x with activePeriod := x.pendingPeriod.getD x.activePeriod, pendingPeriod := none, activeDuty := followDuty,
             counter := 0 }

/-- The counter of an enabled channel reaches the active duty within the period: it stands below the duty, and the duty below
the period (R133, Table 7-2). -/
def reachesDuty (x : DriveChannel) : Bool :=
  x.enabled && decide (x.counter.toNat < x.activeDuty.toNat) && decide (x.activeDuty.toNat < x.activePeriod.toNat)

def State.atBoundary (s : State) (c : ChannelId) : State :=
  if s.channels[c].enabled then s.setChannel c (boundaryChannel s.followDuty s.channels[c]) else s

def State.atDuty (s : State) (c : ChannelId) : State :=
  if reachesDuty s.channels[c] then s.setChannel c { s.channels[c] with counter := s.channels[c].activeDuty } else s

/-! ### The rows -/

/-- CONFIGURE_DRIVE (R139). -/
def execConfigureDrive (s : State) : Step := complete 0x50 configureDrive s

/-- SET_DRIVE_LEVELS (R140). -/
def execSetDriveLevels (s : State) : Step := complete 0x51 setDriveLevels s

/-- SET_DRIVE_PERIOD (R142). -/
def execSetDrivePeriod (s : State) : Step := complete 0x52 setDrivePeriod s

/-- SET_MANUAL_DUTY (R141). -/
def execSetManualDuty (s : State) : Step := complete 0x53 setManualDuty s

/-- ENABLE_DRIVE (R143). -/
def execEnableDrive (s : State) : Step := complete 0x54 enableDrive s

/-- DISABLE_DRIVE (R144). -/
def execDisableDrive (s : State) : Step := complete 0x55 disableDrive s

/-- RELEASE_DRIVE (R149). -/
def execReleaseDrive (s : State) : Step := complete 0x56 releaseDrive s

/-- READ_DRIVE (R150). -/
def execReadDrive (s : State) : Step := complete 0x57 readDrive s

/-- PERIOD_BOUNDARY (R134, R135). -/
def execPeriodBoundary (channel : ChannelId) (s : State) : Step := running s (s.atBoundary channel)

/-- DRIVE_DUTY_COUNT (R133). -/
def execDriveDutyCount (channel : ChannelId) (s : State) : Step := running s (s.atDuty channel)

end Sys2Proof.Machine
end

