-- ==== Sys2Proof/Machine/IndicatorMatrix.lean ====
section
/-! DEFINITION. The indicator matrix (chapter 8). -/

namespace Sys2Proof.Machine

/-- The patterns of a cell (Table 8-1). -/
inductive Pattern where
  | off | dimSteady | fullSteady | dimSlow | fullSlow | fullFast | dimFast | locate
deriving DecidableEq, Repr

/-- The slow lit phase (R156). -/
def slowLit (t : Clock) : Bool := decide (t.toNat % 1000 < 500)

/-- The fast lit phase, which is also the locate dim phase (R156). -/
def fastLit (t : Clock) : Bool := decide (t.toNat % 250 < 125)

/-- The brightness of a pattern at a clock value (R155). -/
def brightness (t : Clock) : Pattern → Brightness
  | .off => .off
  | .dimSteady => .dim
  | .fullSteady => .full
  | .dimSlow => if slowLit t then .dim else .off
  | .fullSlow => if slowLit t then .full else .off
  | .fullFast => if fastLit t then .full else .off
  | .dimFast => if fastLit t then .dim else .off
  | .locate => if fastLit t then .dim else .full

/-- The pattern of a slot's state (R157, Table 8-2). -/
def statePattern : Option PointRecord → Pattern
  | none => .off
  | some r =>
    match r.state with
    | .dormant => .dimSteady
    | .held => .dimFast
    | .live =>
      match r.alarm with
      | .unknown => .dimSlow
      | .normal => .fullSteady
      | .low => .fullSlow
      | .high => .fullSlow
      | .fault => .fullFast

/-- The pattern of a slot, its locate first (R160 steps 3 and 4). -/
def slotPattern (r : Option PointRecord) : Pattern :=
  if (r.bind PointRecord.locate).isSome then .locate else statePattern r

/-- The on-time of a cell (R160). -/
def cellOnTime (settings : Settings) (t : Clock) (r : Option PointRecord) : Brightness :=
  if !settings.matrixEnable then .off
  else if settings.lampTest then .full
  else brightness t (slotPattern r)

/-- The slot that the cell in a row and column shows: P(8r + c). -/
def cellSlot (row : Fin 6) (column : Column) : Slot := ⟨8 * row.val + column.val, by omega⟩

/-- The row whose slot starts next: ROW0 after a reset, else the next in order (R153, log 9). -/
def Matrix.nextRow (m : Matrix) : Fin 6 :=
  match m.stage with
  | .slotStart => m.row
  | .lit => m.row + 1
  | .blanking => m.row + 1

/-- The matrix at the start of a row slot: the settings copy, the on-times and the column drivers (R153, R154, R160). -/
def State.rowStarted (s : State) : State :=
  let row := s.matrix.nextRow
  let onTimes := Vector.ofFn fun c => cellOnTime s.settings s.clock s.points[cellSlot row c]
  s.setMatrix
    { row := row, stage := .lit, enableCopy := s.settings.matrixEnable, lampTestCopy := s.settings.lampTest,
      onTimes := onTimes, columns := onTimes.map (fun b => b != .off) }

/-- The on-time of a dim cell ends (R153). -/
def State.dimEnded (s : State) (c : Column) : State :=
  if s.matrix.stage == .lit && s.matrix.onTimes[c] == .dim then
    s.setMatrix { s.matrix with columns := s.matrix.columns.set c false }
  else s

/-- The blanking gap: the row driver and every column driver inactive (R153). -/
def State.blanked (s : State) : State :=
  if s.matrix.stage == .lit then
    s.setMatrix { s.matrix with stage := .blanking, columns := Vector.replicate 8 false }
  else s

/-! ### The rows -/

/-- ROW_SLOT_START (R153 to R157, R160). -/
def execRowSlotStart (s : State) : Step := running s s.rowStarted

/-- CELL_ON_TIME_END (R153). -/
def execCellOnTimeEnd (column : Column) (s : State) : Step := running s (s.dimEnded column)

/-- BLANKING_GAP (R153). -/
def execBlankingGap (s : State) : Step := running s s.blanked

end Sys2Proof.Machine
end

