-- ==== Sys2Proof/Machine/Device.lean ====
section
/-! DEFINITION. READ_NOTICES, the device commands, CLEAR_TABLES and hardware reset (chapter 9), and UNKNOWN_COMMAND (R188). -/

namespace Sys2Proof.Machine

/-! ### READ_NOTICES (R165) -/

/-- A member point that the source may read: it owns the point, or is the service controller (R165). -/
def State.readsPoint (s : State) (source : Byte) (p : Slot) : Bool :=
  s.noticePoints[p] && (source == Config.service || (s.points[p]).any (fun r => r.owner == source))

/-- A member reference that the source may read (R165). -/
def State.readsRef (s : State) (source : Byte) (r : RefId) : Bool :=
  s.noticeRefs[r] && (source == Config.service || (s.refs[r]).any (fun x => x.owner == source))

/-- The selected members as the reply lists them: slots ascending, then references A to D as 48 to 51 (R165, Table 10-6). -/
def State.noticeMembers (s : State) (source : Byte) : List Byte :=
  ((List.finRange 48).filter (s.readsPoint source)).map slotByte ++
  ((List.finRange 4).filter (s.readsRef source)).map (fun r => 48 + refByte r)

/-- The selected members leave the set; the others stay (R165). -/
def State.noticesRead (s : State) (source : Byte) : State :=
  { s with
    noticePoints := Vector.ofFn fun p => s.noticePoints[p] && !s.readsPoint source p
    noticeRefs := Vector.ofFn fun r => s.noticeRefs[r] && !s.readsRef source r }

def readNotices (source : Byte) (payload : List Byte) (s : State) : Answer :=
  match payload with
  | [] => .ok (s.noticesRead source) (countByte (s.noticeMembers source).length :: s.noticeMembers source)
  | _ => .refuse .badLength

/-! ### READ_STATUS (R171) -/

/-- The drop address of the part (R174). -/
def State.dropAddress (s : State) : Byte := Config.dropBase + s.addrStrap.setWidth 8

/-- The kind and record of the current job as READ_STATUS carries them; zeros for none (Table 10-10). -/
def jobBytes : Option Job → List Byte
  | none => [0, 0]
  | some j =>
    match j.record with
    | .ref r => [1, refByte r]
    | .point p => [2, slotByte p]

/-- How many slots hold a record of which `f` is true. -/
def State.countPoints (s : State) (f : PointRecord → Bool) : Nat :=
  ((List.finRange 48).filter (fun p => (s.points[p]).any f)).length

/-- How many references are not EMPTY. -/
def State.countRefs (s : State) : Nat := ((List.finRange 4).filter (fun r => (s.refs[r]).isSome)).length

/-- How many channels have an owner. -/
def State.countOwned (s : State) : Nat := ((List.finRange 8).filter (fun c => s.channels[c].owner != 0)).length

/-- The READ_STATUS reply payload (Table 10-10). -/
def State.statusReply (s : State) : List Byte :=
  be16 Config.partCode ++ [Config.revision, s.dropAddress, s.rateStrap.setWidth 8] ++ be32 s.clock ++
  [converterByte s.converter.state] ++ jobBytes s.converter.state.job ++
  [countByte s.queue.length, 0, countByte (s.countPoints fun _ => true), countByte (s.countPoints fun r => r.state == .live),
   countByte s.countRefs, countByte s.countOwned,
   bitsByte [s.causes.supplyLow, s.causes.lineContention, s.causes.tableCleared]] ++
  be16 s.port.discardCount ++
  [discardByte s.port.lastDiscard, s.settings.floor.setWidth 8, flagByte s.settings.alertEnable,
   flagByte s.settings.matrixEnable, flagByte s.settings.lampTest]

def readStatus (_source : Byte) (payload : List Byte) (s : State) : Answer :=
  match payload with
  | [] => .ok s s.statusReply
  | _ => .refuse .badLength

/-! ### CLEAR_CAUSES, SET_DEVICE, CLEAR_TABLES -/

def clearCauses (source : Byte) (payload : List Byte) (s : State) : Answer :=
  match payload with
  | [] =>
    require (source == Config.service) .notOwner <|
    .ok ((s.setCauses ⟨false, false, false⟩).setPort { s.port with discardCount := 0, lastDiscard := none }) []
  | _ => .refuse .badLength

/-- The settings after SET_DEVICE: each present one from the payload (R170). -/
def amendedSettings (mask floor alert matrix lamp : Byte) (c : Settings) : Settings :=
  { floor := if mask.getLsbD 0 then floor.setWidth 3 else c.floor
    alertEnable := if mask.getLsbD 1 then flagOf alert else c.alertEnable
    matrixEnable := if mask.getLsbD 2 then flagOf matrix else c.matrixEnable
    lampTest := if mask.getLsbD 3 then flagOf lamp else c.lampTest }

def setDevice (source : Byte) (payload : List Byte) (s : State) : Answer :=
  match payload with
  | [mask, floor, alert, matrix, lamp] =>
    require (source == Config.service) .notOwner <|
    require (decide (mask.toNat < 16) && (!mask.getLsbD 0 || decide (floor.toNat ≤ 7)) &&
      (!mask.getLsbD 1 || flagCoded alert) && (!mask.getLsbD 2 || flagCoded matrix) &&
      (!mask.getLsbD 3 || flagCoded lamp)) .badValue <|
    .ok (s.setSettings (amendedSettings mask floor alert matrix lamp s.settings)) []
  | _ => .refuse .badLength

/-- Every table at its reset value, the job aborted, a hold ended, TABLE_CLEARED set; the rest of the part as it stands (R172).
A converter that is already IDLE stands in the same state as after hardware reset too (R89). -/
def State.cleared (s : State) : State :=
  { s with
    points := State.reset.points
    tagMap := State.reset.tagMap
    refs := State.reset.refs
    queue := []
    converter := Converter.reset
    channels := State.reset.channels
    noticePoints := State.reset.noticePoints
    noticeRefs := State.reset.noticeRefs
    causes := { s.causes with tableCleared := true } }

def clearTables (source : Byte) (payload : List Byte) (s : State) : Answer :=
  match payload with
  | [] => require (source == Config.service) .notOwner <| .ok s.cleared []
  | _ => .refuse .badLength

/-! ### Hardware reset (R173) -/

/-- Every block in its reset state, with these straps latched; the rows that wait are the outside's and stay. -/
def State.hardReset (s : State) (low : Bool) (addr : BitVec 3) (rate : BitVec 2) : State :=
  { State.reset with inReset := low, addrStrap := addr, rateStrap := rate, pending := s.pending }

/-! ### The rows -/

/-- READ_NOTICES (R165). -/
def execReadNotices (s : State) : Step := complete 0x70 readNotices s

/-- READ_STATUS (R171). -/
def execReadStatus (s : State) : Step := complete 0x71 readStatus s

/-- CLEAR_CAUSES (R168). -/
def execClearCauses (s : State) : Step := complete 0x72 clearCauses s

/-- SET_DEVICE (R170). -/
def execSetDevice (s : State) : Step := complete 0x73 setDevice s

/-- CLEAR_TABLES (R172). -/
def execClearTables (s : State) : Step := complete 0x74 clearTables s

/-- UNKNOWN_COMMAND: a frame whose code is not listed is answered and changes nothing (R188). -/
def execUnknownCommand (s : State) : Step :=
  match s.inReset, s.port.command with
  | false, some f => if commandCodes.contains f.code then .next s else .next (s.finish f (.refuse .unknownCommand))
  | _, _ => .next s

/-- HARDWARE_RESET: every job, frame and reply is lost and every block stands in its reset state, held there (R173, R190). -/
def execHardwareReset (s : State) : Step := .next (s.hardReset true s.addrStrap s.rateStrap)

/-- RESET_RELEASE: the straps are latched and the part starts (R173). NRESET can rise only when it is low. -/
def execResetRelease (addr : BitVec 3) (rate : BitVec 2) (s : State) : Step :=
  if s.inReset then .next (s.hardReset false addr rate) else .next s

end Sys2Proof.Machine
end

