-- ==== Sys2Proof/Machine/LinePort.lean ====
section
/-! DEFINITION. The line port: receiving, frame ends, discards, turnaround, sending (chapter 10). -/

namespace Sys2Proof.Machine

/-- A discard is counted, up to 65,535, and its reason recorded (R181). -/
def Port.discard (p : Port) (reason : DiscardReason) : Port :=
  { p with
    discardCount := if p.discardCount == 0xFFFF then p.discardCount else p.discardCount + 1
    lastDiscard := some reason }

/-- The receive buffer is emptied and the receiver enters a state. -/
def Port.enter (p : Port) (rx : Receiver) : Port := { p with rx := rx, buffer := [] }

/-- The port is sending a reply: LINE_DE is high (R186). -/
def Port.isSending (p : Port) : Bool := !p.sending.isEmpty

/-- A character can be received: the part is not sending, and the line is not held low by an all-low character or a break
(R176, R178, R186). -/
def Port.hears (p : Port) : Bool := !p.isSending && (p.lowRun == .clear || p.lowRun == .settling)

/-- A reply that waits or is to come is dropped and counted (R178, R185). -/
def Port.dropReply (p : Port) (reason : DiscardReason) : Port :=
  if p.turnaround then { p with turnaround := false, reply := none }.discard reason else p

/-- A frame in COLLECTING is discarded; in the other states there is no frame (R176, R178). -/
def Port.dropFrame (p : Port) (reason : DiscardReason) : Port :=
  match p.rx with
  | .collecting _ => p.discard reason
  | .addressWait => p
  | .discarding => p

/-- An address character is examined (R175). -/
def Port.examine (p : Port) (drop value : Byte) : Port :=
  if value == drop then p.enter (.collecting .directed)
  else if value == Config.broadcast then p.enter (.collecting .broadcast)
  else p.enter .addressWait

/-- An address character: it drops a waiting reply, cuts a frame, and is examined (R175 to R177, R185). -/
def Port.address (p : Port) (drop value : Byte) : Port :=
  if p.hears then ((({ p with lowRun := .clear }.dropReply .preempted).dropFrame .cut).examine drop value) else p

/-- A data character: stored in COLLECTING, the 81st discards the frame; ignored in the other states (R175 to R177). -/
def Port.data (p : Port) (value : Byte) : Port :=
  if p.hears then
    let q := { p with lowRun := .clear }
    match q.rx with
    | .collecting _ =>
      if q.buffer.length < Config.bufferSize then { q with buffer := q.buffer ++ [value] }
      else (q.discard .length).enter .discarding
    | .addressWait => q
    | .discarding => q
  else p

/-- A character with a low stop bit: an all-low one waits for the line to rise; another discards a frame in COLLECTING as
FRAMING (R175 to R177). -/
def Port.stopError (p : Port) (data : Byte) (mark : Bool) : Port :=
  if p.hears then
    if data == 0 && !mark then { p with lowRun := .allLow }
    else
      let q := { p with lowRun := .clear }
      match q.rx with
      | .collecting _ => (q.discard .framing).enter .discarding
      | .addressWait => q
      | .discarding => q
  else p

/-- The line rises: an all-low character was no break, so a frame in COLLECTING is discarded as FRAMING; after it and after a
break the receiver waits for one bit time of high line (R176, R178). -/
def Port.rise (p : Port) : Port :=
  match p.lowRun with
  | .allLow =>
    match p.rx with
    | .collecting _ => (({ p with lowRun := .settling }).discard .framing).enter .discarding
    | .addressWait => { p with lowRun := .settling }
    | .discarding => { p with lowRun := .settling }
  | .broken => { p with lowRun := .settling }
  | .clear => p
  | .settling => p

/-- A break is taken: a frame in COLLECTING and a waiting reply are discarded as BREAK (R178). While the part sends, no break can
be met; a break already taken is not taken again before the line rises. -/
def Port.takeBreak (p : Port) : Port :=
  if p.isSending || p.lowRun == .broken then p
  else ((({ p with lowRun := .broken }.dropFrame .lineBreak).enter .addressWait).dropReply .lineBreak)

/-- The checks at a frame's end, in order (R179): the frame that is accepted, or the reason of the first that fails. -/
def checkFrame (kind : FrameKind) (free : Bool) (buffer : List Byte) : Except DiscardReason CommandFrame :=
  match buffer with
  | source :: code :: length :: rest =>
    if buffer.length < 5 then .error .short
    else if length.toNat ≠ buffer.length - 5 then .error .length
    else if be16 (frameCheck (buffer.take (buffer.length - 2))) ≠ buffer.drop (buffer.length - 2) then .error .check
    else if source.toNat < 1 ∨ 15 < source.toNat then .error .source
    else if !free then .error .busy
    else if kind = .broadcast ∧ code ≠ measureOwnedCode then .error .notBroadcast
    else .ok { kind := kind, source := source, code := code, payload := rest.take (rest.length - 2) }
  | _ => .error .short

/-- The line has been idle for 22 bit times: a frame in COLLECTING ends, DISCARDING ends (R177, R179). An accepted directed
frame starts its turnaround (R184). -/
def Port.gap (p : Port) : Port :=
  if p.hears then
    let q := { p with lowRun := .clear }
    match q.rx with
    | .addressWait => q
    | .discarding => q.enter .addressWait
    | .collecting kind =>
      match checkFrame kind q.command.isNone q.buffer with
      | .error reason => (q.discard reason).enter .addressWait
      | .ok f => { q.enter .addressWait with command := some f, turnaround := q.turnaround || kind == .directed }
  else p

/-- The turnaround ends with the reply in the reply buffer and no all-low character under judgement: sending starts (R184,
R186). -/
def Port.startSending (p : Port) (drop : Byte) : Port :=
  match p.reply with
  | some r =>
    if p.turnaround && p.hears then { p.enter .addressWait with turnaround := false, sending := replyCharacters drop r }
    else p
  | none => p

/-- The echo of the character being sent matches it in its data bits, its mark bit and its stop bit (R186). -/
def echoMatches (c : LineCharacter) (data : Byte) (mark stop : Bool) : Bool := c.data == data && c.mark == mark && stop

/-- The reply ends, sent or abandoned: LINE_DE falls, the reply buffer is emptied, ADDRESS_WAIT (R186, R187). -/
def Port.endReply (p : Port) : Port := { p.enter .addressWait with reply := none, sending := [] }

/-- The end of a sent character (R186, R187). -/
def State.echoed (s : State) (data : Byte) (mark stop : Bool) : State :=
  match s.port.sending with
  | [] => s
  | c :: rest =>
    if echoMatches c data mark stop then
      match rest with
      | [] => s.setPort s.port.endReply
      | _ :: _ => s.setPort { s.port with sending := rest }
    else (s.setPort { s.port.endReply with lowRun := .settling }).setContention

/-! ### The rows -/

/-- ADDRESS_CHARACTER (R175, R176, R177, R185). -/
def execAddressCharacter (value : Byte) (s : State) : Step := running s (s.setPort (s.port.address s.dropAddress value))

/-- DATA_CHARACTER (R175, R176, R177). -/
def execDataCharacter (value : Byte) (s : State) : Step := running s (s.setPort (s.port.data value))

/-- STOP_BIT_ERROR (R176). -/
def execStopBitError (data : Byte) (mark : Bool) (s : State) : Step := running s (s.setPort (s.port.stopError data mark))

/-- IDLE_GAP (R179). -/
def execIdleGap (s : State) : Step := running s (s.setPort s.port.gap)

/-- BREAK (R178). -/
def execLineBreak (s : State) : Step := running s (s.setPort s.port.takeBreak)

/-- LINE_RISE (R176, R178). -/
def execLineRise (s : State) : Step := running s (s.setPort s.port.rise)

/-- TURNAROUND_END (R184). -/
def execTurnaroundEnd (s : State) : Step := running s (s.setPort (s.port.startSending s.dropAddress))

/-- CHARACTER_ECHO (R186, R187). -/
def execCharacterEcho (data : Byte) (mark stop : Bool) (s : State) : Step := running s (s.echoed data mark stop)

end Sys2Proof.Machine
end

