-- ==== Sys2Proof/Machine/Points.lean ====
section
/-! DEFINITION. The commands of the point table (chapter 1), LOCATE_POINT (chapter 8) and the handover commands (chapter 2). -/

namespace Sys2Proof.Machine

/-! ### Checks of the definition fields -/

/-- The band constraints (R3). -/
def bandConstraints (low high hysteresis : Half) : Bool :=
  decide (low.toNat < high.toNat) && decide (2 * hysteresis.toNat ≤ high.toNat - low.toNat)

/-- Every present field is within its range (R8 check 6, R12 check 6). Bits are numbered as the AMEND_POINT mask (Table 10-6). -/
def fieldsInRange (present : Nat → Bool) (f : PointFields) : Bool :=
  (!present 0 || f.tag != 0) &&
  (!present 1 || decide (f.input.toNat < 16)) &&
  (!present 3 || f.interval != 0) &&
  (!present 4 || (decide (2 ≤ f.staleFactor.toNat) && decide (f.staleFactor.toNat ≤ 15))) &&
  (!present 5 || (decide (1 ≤ f.faultLimit.toNat) && decide (f.faultLimit.toNat ≤ 15))) &&
  (!present 8 || decide (f.hysteresis.toNat ≤ 32767)) &&
  (!present 9 || flagCoded f.notify)

/-- The drive binding test for a point of this owner in slot `p` (R7): the channel's owner, its mode, its binding. -/
def bindingTest (s : State) (binding : Option ChannelId) (owner : Byte) (p : Slot) (rest : Answer) : Answer :=
  match binding with
  | some c =>
    require (s.channels[c].owner == owner) .notOwner <|
    require (s.channels[c].mode == .own) .modeConflict <|
    require (s.channels[c].binding == none || s.channels[c].binding == some p) .inUse rest
  | none => rest

/-! ### DEFINE_POINT -/

/-- The lowest-numbered slot that is VACANT (R10). -/
def State.lowestVacant (s : State) : Option Slot := (List.finRange 48).find? (fun p => s.points[p] == none)

/-- Check 3 of DEFINE_POINT: the named slot is vacant (SLOT_TAKEN), or some slot is (TABLE_FULL) (R8, R10). -/
def chosenSlot (slot : Byte) (s : State) (rest : Slot → Answer) : Answer :=
  if h : slot.toNat < 48 then
    match s.points[(⟨slot.toNat, h⟩ : Slot)] with
    | some _ => .refuse .slotTaken
    | none => rest ⟨slot.toNat, h⟩
  else
    match s.lowestVacant with
    | some p => rest p
    | none => .refuse .tableFull

/-- The record that DEFINE_POINT fills in (R9). -/
def definedRecord (f : PointFields) (owner : Byte) : PointRecord :=
  { state := .dormant, owner := owner, tag := f.tag, input := sensorOf f.input, reference := refOf f.reference,
    interval := f.interval, staleFactor := f.staleFactor, faultLimit := f.faultLimit, bandLow := f.bandLow,
    bandHigh := f.bandHigh, hysteresis := f.hysteresis, notify := flagOf f.notify, binding := bindingOf f.binding,
    lastValue := none, quality := .none, alarm := .unknown, faults := 0, resultTime := none, deadline := none,
    offer := none, locate := none }

/-- The changes of DEFINE_POINT (R9). -/
def State.fillSlot (s : State) (p : Slot) (r : PointRecord) : State :=
  (((s.setPoint p (some r)).setTag p (some r.tag)).gainUser r.reference).bindChannel r.binding p .unknown

/-- DEFINE_POINT with its slot and its fields read (R8 to R10). -/
def defineFields (source slot : Byte) (f : PointFields) (s : State) : Answer :=
  require ((decide (slot.toNat < 48) || slot == 255) && refCoded f.reference && bindingCoded f.binding) .badSlot <|
  chosenSlot slot s fun p =>
  match s.refs[refOf f.reference] with
  | none => .refuse .notFound
  | some x =>
    require (fieldsInRange (fun _ => true) f) .badValue <|
    require (bandConstraints f.bandLow f.bandHigh f.hysteresis) .badBand <|
    require (s.slotOfTag f.tag).isNone .tagTaken <|
    require (sharedWith x source) .notShared <|
    bindingTest s (bindingOf f.binding) source p <|
    .ok (s.fillSlot p (definedRecord f source)) [slotByte p]

def definePoint (source : Byte) (payload : List Byte) (s : State) : Answer :=
  match payload with
  | slot :: rest =>
    match pointFieldsOf rest with
    | some f => defineFields source slot f s
    | none => .refuse .badLength
  | [] => .refuse .badLength

/-! ### AMEND_POINT -/

/-- The record as it stands after an amendment: each present field from the payload, the others kept (R11). -/
def amendedRecord (mask : Half) (f : PointFields) (r : PointRecord) : PointRecord :=
  { r with
    tag := if mask.getLsbD 0 then f.tag else r.tag
    input := if mask.getLsbD 1 then sensorOf f.input else r.input
    reference := if mask.getLsbD 2 then refOf f.reference else r.reference
    interval := if mask.getLsbD 3 then f.interval else r.interval
    staleFactor := if mask.getLsbD 4 then f.staleFactor else r.staleFactor
    faultLimit := if mask.getLsbD 5 then f.faultLimit else r.faultLimit
    bandLow := if mask.getLsbD 6 then f.bandLow else r.bandLow
    bandHigh := if mask.getLsbD 7 then f.bandHigh else r.bandHigh
    hysteresis := if mask.getLsbD 8 then f.hysteresis else r.hysteresis
    notify := if mask.getLsbD 9 then flagOf f.notify else r.notify
    binding := if mask.getLsbD 10 then bindingOf f.binding else r.binding }

/-- A static field is present: bits 1 to 5 (R3, R12 check 5). -/
def staticPresent (mask : Half) : Bool :=
  mask.getLsbD 1 || mask.getLsbD 2 || mask.getLsbD 3 || mask.getLsbD 4 || mask.getLsbD 5

/-- No bit is set that names no field: bits 11 to 15 (Table 10-6). -/
def pointMaskCoded (mask : Half) : Bool := decide (mask.toNat < 2048)

/-- The changes of AMEND_POINT from record `r` to record `n` (R13 to R15). A field that is written back equal has no effect. -/
def State.amendSlot (s : State) (p : Slot) (r n : PointRecord) : State :=
  let s1 := s.setPoint p (some n)
  let s2 := if n.tag != r.tag then s1.setTag p (some n.tag) else s1
  let s3 := if r.notify && !n.notify then s2.leavePoint p else s2
  let s4 := if n.binding != r.binding then (s3.unbindChannel r.binding).bindChannel n.binding p r.alarm else s3
  if n.reference != r.reference then (s4.loseUser r.reference).gainUser n.reference else s4

/-- AMEND_POINT with its slot, mask and fields read (R11, R12). -/
def amendFields (source slot : Byte) (mask : Half) (f : PointFields) (s : State) : Answer :=
  require ((!mask.getLsbD 2 || refCoded f.reference) && (!mask.getLsbD 10 || bindingCoded f.binding)) .badSlot <|
  onPoint slot s fun p r =>
  require (!mask.getLsbD 2 || (s.refs[refOf f.reference]).isSome) .notFound <|
  require (mayChange source r.owner) .notOwner <|
  require (!(r.state == .live && staticPresent mask)) .wrongState <|
  require (pointMaskCoded mask && fieldsInRange mask.getLsbD f) .badValue <|
  require (mask == 0 || bandConstraints (amendedRecord mask f r).bandLow (amendedRecord mask f r).bandHigh
      (amendedRecord mask f r).hysteresis) .badBand <|
  require (!(mask.getLsbD 0 && s.tagElsewhere f.tag p)) .tagTaken <|
  require (!mask.getLsbD 2 || (s.refs[refOf f.reference]).any (fun x => sharedWith x r.owner)) .notShared <|
  bindingTest s (if mask.getLsbD 10 then bindingOf f.binding else none) r.owner p <|
  .ok (s.amendSlot p r (amendedRecord mask f r)) []

def amendPoint (source : Byte) (payload : List Byte) (s : State) : Answer :=
  match payload with
  | slot :: maskH :: maskL :: rest =>
    match pointFieldsOf rest with
    | some f => amendFields source slot (half maskH maskL) f s
    | none => .refuse .badLength
  | _ => .refuse .badLength

/-! ### START_POINT, STOP_POINT, RETIRE_POINT -/

/-- The changes of START_POINT (R17). -/
def State.start (s : State) (p : Slot) (r : PointRecord) : State :=
  ((((s.setPoint p (some { r with
      state := .live
      faults := 0
      alarm := .unknown
      deadline := some (s.clock + freshnessLimit r.interval r.staleFactor) })).insertEntry (.point p) s.clock).gainLiveUser
    r.reference).requestLevel r.binding .unknown)

def startPoint (source : Byte) (payload : List Byte) (s : State) : Answer :=
  match payload with
  | [slot] =>
    onPoint slot s fun p r =>
    require (mayChange source r.owner) .notOwner <|
    require (r.state != .live) .wrongState <|
    .ok (s.start p r) []
  | _ => .refuse .badLength

/-- A LIVE point leaves the converter and the queue: its job is aborted or its entry removed (R18, R20, R88). -/
def State.withdraw (s : State) (p : Slot) : State := (s.abortJob (.point p)).removeEntry (.point p)

/-- The changes of STOP_POINT of a LIVE point (R18). -/
def State.stopLive (s : State) (p : Slot) (r : PointRecord) : State :=
  (((s.withdraw p).setPoint p (some { r with state := .dormant, alarm := .unknown, deadline := none })).loseLiveUser
    r.reference).requestLevel r.binding .unknown

def stopPoint (source : Byte) (payload : List Byte) (s : State) : Answer :=
  match payload with
  | [slot] =>
    onPoint slot s fun p r =>
    require (mayChange source r.owner) .notOwner <|
    match r.state with
    | .dormant => .refuse .wrongState
    | .live => .ok (s.stopLive p r) []
    | .held => .ok (s.setPoint p (some { r with state := .dormant, alarm := .unknown })) []
  | _ => .refuse .badLength

/-- The changes of RETIRE_POINT (R20). -/
def State.retire (s : State) (p : Slot) (r : PointRecord) : State :=
  let s1 := if r.state == .live then (s.withdraw p).loseLiveUser r.reference else s
  ((((s1.setPoint p none).setTag p none).loseUser r.reference).unbindChannel r.binding).leavePoint p

def retirePoint (source : Byte) (payload : List Byte) (s : State) : Answer :=
  match payload with
  | [slot] =>
    onPoint slot s fun p r =>
    require (mayChange source r.owner) .notOwner <|
    .ok (s.retire p r) []
  | _ => .refuse .badLength

/-! ### READ_POINT, FIND_TAG, LIST_POINTS -/

/-- The age of a point, in 10 ms units (R23). -/
def age (r : PointRecord) (now : Clock) : Half :=
  match r.resultTime with
  | some t => if atOrBefore t now then BitVec.ofNat 16 (min 65535 ((now - t).toNat / 10)) else 65535
  | none => 65535

/-- The READ_POINT reply payload (Table 10-7); an absent field is sent as zeros (R189). -/
def pointReply (p : Slot) (r : PointRecord) (now : Clock) : List Byte :=
  [slotByte p, pointStateByte r.state, r.owner] ++ be16 r.tag ++ [sensorByte r.input, refByte r.reference] ++
  be16 r.interval ++ [r.staleFactor, r.faultLimit] ++ be16 r.bandLow ++ be16 r.bandHigh ++ be16 r.hysteresis ++
  [flagByte r.notify,
   bitsByte [r.binding.isSome, r.lastValue.isSome, r.resultTime.isSome, r.deadline.isSome, r.offer.isSome,
     r.locate.isSome],
   (r.binding.map channelByte).getD 0] ++
  be16 (r.lastValue.getD 0) ++ [qualityByte r.quality, alarmByte r.alarm, countByte r.faults] ++
  be32 (r.resultTime.getD 0) ++ be32 (r.deadline.getD 0) ++
  [(r.offer.map Offer.recipient).getD 0] ++ be32 ((r.offer.map Offer.expiry).getD 0) ++
  be32 (r.locate.getD 0) ++ be16 (age r now)

def readPoint (_source : Byte) (payload : List Byte) (s : State) : Answer :=
  match payload with
  | [slot] => onPoint slot s fun p r => .ok s (pointReply p r s.clock)
  | _ => .refuse .badLength

def findTag (_source : Byte) (payload : List Byte) (s : State) : Answer :=
  match payload with
  | [hi, lo] =>
    match s.slotOfTag (half hi lo) with
    | some p => .ok s [slotByte p]
    | none => .refuse .notFound
  | _ => .refuse .badLength

/-- A slot matches the owner filter and the input filter of LIST_POINTS (R25). -/
def State.listed (s : State) (owner input : Byte) (p : Slot) : Bool :=
  match s.points[p] with
  | some r => (owner == 0 || r.owner == owner) && (input == 16 || sensorByte r.input == input)
  | none => false

def listPoints (_source : Byte) (payload : List Byte) (s : State) : Answer :=
  match payload with
  | [owner, input] =>
    require (decide (owner.toNat ≤ 15) && decide (input.toNat ≤ 16)) .badValue <|
    let slots := (List.finRange 48).filter (s.listed owner input)
    .ok s (countByte slots.length :: slots.map slotByte)
  | _ => .refuse .badLength

/-! ### LOCATE_POINT (R158) -/

/-- LOCATE_POINT with its reply (R158, Table 10-5). The presence byte of the reply is 1 with an expiry time and 0 without: DESIGN
CHOICE, log 25. -/
def locatePoint (_source : Byte) (payload : List Byte) (s : State) : Answer :=
  match payload with
  | [slot, seconds] =>
    onPoint slot s fun p r =>
    require (decide (seconds.toNat ≤ 60)) .badValue <|
    if seconds == 0 then .ok (s.setPoint p (some { r with locate := none })) [0, 0, 0, 0, 0]
    else
      let expiry := s.clock + secondsMs (seconds.setWidth 32)
      .ok (s.setPoint p (some { r with locate := some expiry })) (1 :: be32 expiry)
  | _ => .refuse .badLength

/-! ### Handover (sections 2.4 and 2.5) -/

def offerPoint (source : Byte) (payload : List Byte) (s : State) : Answer :=
  match payload with
  | [slot, recipient, hold] =>
    onPoint slot s fun p r =>
    require (mayChange source r.owner) .notOwner <|
    require (decide (1 ≤ recipient.toNat) && decide (recipient.toNat ≤ 15) && recipient != r.owner && hold != 0) .badValue <|
    let expiry := s.clock + secondsMs (hold.setWidth 32)
    .ok (s.setPoint p (some { r with offer := some ⟨recipient, expiry⟩ })) (be32 expiry)
  | _ => .refuse .badLength

def withdrawOffer (source : Byte) (payload : List Byte) (s : State) : Answer :=
  match payload with
  | [slot] =>
    onPoint slot s fun p r =>
    require (mayChange source r.owner) .notOwner <|
    require r.offer.isSome .noOffer <|
    .ok (s.setPoint p (some { r with offer := none })) []
  | _ => .refuse .badLength

/-- The open-reference test of a point's reference for an owner (R33). -/
def State.admits (s : State) (r : PointRecord) (owner : Byte) : Bool :=
  (s.refs[r.reference]).any (fun x => sharedWith x owner)

/-- A point and its bound channel move to an owner; an offer that names that owner is dropped (R39, R44). -/
def State.moveOwner (s : State) (p : Slot) (r : PointRecord) (owner : Byte) : State :=
  (s.setPoint p (some { r with
    owner := owner
    offer := if r.offer.any (fun o => o.recipient == owner) then none else r.offer })).moveChannelOwner r.binding owner

def takePoint (source : Byte) (payload : List Byte) (s : State) : Answer :=
  match payload with
  | [slot] =>
    onPoint slot s fun p r =>
    require (r.offer.any (fun o => o.recipient == source)) .noOffer <|
    require (s.admits r source) .notShared <|
    .ok (s.moveOwner p r source) []
  | _ => .refuse .badLength

def assignOwner (source : Byte) (payload : List Byte) (s : State) : Answer :=
  match payload with
  | [slot, owner] =>
    onPoint slot s fun p r =>
    require (source == Config.service) .notOwner <|
    require (decide (1 ≤ owner.toNat) && decide (owner.toNat ≤ 15)) .badValue <|
    require (s.admits r owner) .notShared <|
    .ok (s.moveOwner p r owner) []
  | _ => .refuse .badLength

/-! ### The rows -/

/-- DEFINE_POINT (R8 to R10). -/
def execDefinePoint (s : State) : Step := complete 0x10 definePoint s

/-- AMEND_POINT (R11 to R15). -/
def execAmendPoint (s : State) : Step := complete 0x11 amendPoint s

/-- START_POINT (R16, R17). -/
def execStartPoint (s : State) : Step := complete 0x12 startPoint s

/-- STOP_POINT (R18, R19). -/
def execStopPoint (s : State) : Step := complete 0x13 stopPoint s

/-- RETIRE_POINT (R20, R21). -/
def execRetirePoint (s : State) : Step := complete 0x14 retirePoint s

/-- READ_POINT (R22, R23). -/
def execReadPoint (s : State) : Step := complete 0x15 readPoint s

/-- FIND_TAG (R24). -/
def execFindTag (s : State) : Step := complete 0x16 findTag s

/-- LIST_POINTS (R25). -/
def execListPoints (s : State) : Step := complete 0x17 listPoints s

/-- OFFER_POINT (R36). -/
def execOfferPoint (s : State) : Step := complete 0x20 offerPoint s

/-- WITHDRAW_OFFER (R37). -/
def execWithdrawOffer (s : State) : Step := complete 0x21 withdrawOffer s

/-- TAKE_POINT (R38, R39). -/
def execTakePoint (s : State) : Step := complete 0x22 takePoint s

/-- ASSIGN_OWNER (R43, R44). -/
def execAssignOwner (s : State) : Step := complete 0x23 assignOwner s

/-- LOCATE_POINT (R158). -/
def execLocatePoint (s : State) : Step := complete 0x60 locatePoint s

end Sys2Proof.Machine
end

