-- ==== Sys2Proof/Machine/Scheduler.lean ====
section
/-! DEFINITION. The schedule clock, falling due, dispatch, MEASURE_NOW and MEASURE_OWNED (chapter 5). -/

namespace Sys2Proof.Machine

/-- The first entry whose mark is clear is marked if its due time has come: entries fall due in queue order, at the boundary
between the marked and the unmarked (R93, R94). -/
def markBoundary (now : Clock) : List QueueEntry → List QueueEntry
  | [] => []
  | e :: q =>
    if e.mark then e :: markBoundary now q
    else if atOrBefore e.due now then { e with mark := true } :: q
    else e :: q

/-- A job begins: the snapshot is taken and the converter enters SUPPLY_CHECK (R66). -/
def State.beginJob (s : State) (j : Job) : State := s.setConverter { s.converter with state := .supplyCheck j }

/-- A reference job is handed over with the due time its entry had, or now for one pulled ahead (R57, R66, R101, R102). -/
def State.handRef (s : State) (r : RefId) (x : RefRecord) (due : Clock) : State :=
  ((s.removeEntry (.ref r)).setRef r (some (startedRef x))).beginJob
    { record := .ref r, input := .reference r, excitation := x.excitation, span := x.span, count := none,
      start := s.clock, due := due }

/-- A point job is handed over with N, T and the excitation of its reference (R65, R66, R101). -/
def State.handPoint (s : State) (p : Slot) (r : PointRecord) (x : RefRecord) (due : Clock) : State :=
  (s.removeEntry (.point p)).beginJob
    { record := .point p, input := .sensor r.input, excitation := x.excitation, span := x.span, count := x.count,
      start := s.clock, due := due }

/-- Dispatch of a marked head entry (R100 to R103, Table 5-4). A head whose record or reference does not exist, or a point whose
reference is CALIBRATING while the converter is IDLE, is ruled out by R92, R50 and R100, and is not dispatched: log 16. -/
def State.dispatchHead (s : State) (e : QueueEntry) : State :=
  match e.record with
  | .ref r =>
    match s.refs[r] with
    | some x => s.handRef r x e.due
    | none => s
  | .point p =>
    match s.points[p] with
    | some q =>
      match s.refs[q.reference] with
      | some x =>
        match x.state with
        | .valid => s.handPoint p q x e.due
        | .uncal => s.handRef q.reference x s.clock
        | .faulted => (s.removeEntry (.point p)).evaluateFault p s.clock .refFault
        | .calibrating => s
      | none => s
    | none => s

/-- Dispatch takes place when the converter is IDLE and the head entry is marked (R100). -/
def State.dispatched (s : State) : State :=
  match s.converter.state, s.queue with
  | .idle, e :: _ => if e.mark then s.dispatchHead e else s
  | _, _ => s

def measureNow (source : Byte) (payload : List Byte) (s : State) : Answer :=
  match payload with
  | [slot] =>
    onPoint slot s fun p r =>
    require (mayChange source r.owner) .notOwner <|
    require (r.state == .live) .wrongState <|
    require (!s.isCurrent (.point p)) .inFlight <|
    .ok (s.setQueue (bringForward s.clock s.queue p)) []
  | _ => .refuse .badLength

/-- A slot that MEASURE_OWNED selects: it holds an entry, and the source owns its point or is the service controller (R107). -/
def State.ownedInQueue (s : State) (source : Byte) (p : Slot) : Bool :=
  (s.entryOf (.point p)).isSome &&
    (source == Config.service || (s.points[p]).any (fun r => r.owner == source))

def measureOwned (source : Byte) (payload : List Byte) (s : State) : Answer :=
  match payload with
  | [] =>
    let slots := (List.finRange 48).filter (s.ownedInQueue source)
    .ok (s.setQueue (slots.foldl (bringForward s.clock) s.queue)) [countByte slots.length]
  | _ => .refuse .badLength

/-! ### The rows -/

/-- SCHEDULE_CLOCK_STEP: the clock advances by 1 and wraps (R90). -/
def execScheduleClockStep (s : State) : Step := running s { s with clock := s.clock + 1 }

/-- FALLING_DUE (R93, R94). -/
def execFallingDue (s : State) : Step := running s (s.setQueue (markBoundary s.clock s.queue))

/-- DISPATCH (R100 to R103). -/
def execDispatch (s : State) : Step := running s s.dispatched

/-- MEASURE_NOW (R106). -/
def execMeasureNow (s : State) : Step := complete 0x40 measureNow s

/-- MEASURE_OWNED (R107, R183). -/
def execMeasureOwned (s : State) : Step := complete 0x41 measureOwned s

end Sys2Proof.Machine
end

