-- ==== Sys2Proof/Machine/Dispatch.lean ====
section
/-! DEFINITION. The meaning of every row of the opcode table. -/

namespace Sys2Proof.Machine

def exec (i : Instr) (s : State) : Host.Outcome State Fault Refusal :=
  match i with
  | .definePoint => Sys2Proof.Machine.execDefinePoint s
  | .amendPoint => Sys2Proof.Machine.execAmendPoint s
  | .startPoint => Sys2Proof.Machine.execStartPoint s
  | .stopPoint => Sys2Proof.Machine.execStopPoint s
  | .retirePoint => Sys2Proof.Machine.execRetirePoint s
  | .readPoint => Sys2Proof.Machine.execReadPoint s
  | .findTag => Sys2Proof.Machine.execFindTag s
  | .listPoints => Sys2Proof.Machine.execListPoints s
  | .offerPoint => Sys2Proof.Machine.execOfferPoint s
  | .withdrawOffer => Sys2Proof.Machine.execWithdrawOffer s
  | .takePoint => Sys2Proof.Machine.execTakePoint s
  | .assignOwner => Sys2Proof.Machine.execAssignOwner s
  | .defineRef => Sys2Proof.Machine.execDefineRef s
  | .amendRef => Sys2Proof.Machine.execAmendRef s
  | .calibrateRef => Sys2Proof.Machine.execCalibrateRef s
  | .readRef => Sys2Proof.Machine.execReadRef s
  | .retireRef => Sys2Proof.Machine.execRetireRef s
  | .measureNow => Sys2Proof.Machine.execMeasureNow s
  | .measureOwned => Sys2Proof.Machine.execMeasureOwned s
  | .configureDrive => Sys2Proof.Machine.execConfigureDrive s
  | .setDriveLevels => Sys2Proof.Machine.execSetDriveLevels s
  | .setDrivePeriod => Sys2Proof.Machine.execSetDrivePeriod s
  | .setManualDuty => Sys2Proof.Machine.execSetManualDuty s
  | .enableDrive => Sys2Proof.Machine.execEnableDrive s
  | .disableDrive => Sys2Proof.Machine.execDisableDrive s
  | .releaseDrive => Sys2Proof.Machine.execReleaseDrive s
  | .readDrive => Sys2Proof.Machine.execReadDrive s
  | .locatePoint => Sys2Proof.Machine.execLocatePoint s
  | .readNotices => Sys2Proof.Machine.execReadNotices s
  | .readStatus => Sys2Proof.Machine.execReadStatus s
  | .clearCauses => Sys2Proof.Machine.execClearCauses s
  | .setDevice => Sys2Proof.Machine.execSetDevice s
  | .clearTables => Sys2Proof.Machine.execClearTables s
  | .unknownCommand => Sys2Proof.Machine.execUnknownCommand s
  | .hardwareReset => Sys2Proof.Machine.execHardwareReset s
  | .resetRelease addr rate => Sys2Proof.Machine.execResetRelease addr rate s
  | .scheduleClockStep => Sys2Proof.Machine.execScheduleClockStep s
  | .fallingDue => Sys2Proof.Machine.execFallingDue s
  | .offerExpiry slot => Sys2Proof.Machine.execOfferExpiry slot s
  | .locateExpiry slot => Sys2Proof.Machine.execLocateExpiry slot s
  | .freshnessDeadlineExpiry slot => Sys2Proof.Machine.execFreshnessDeadlineExpiry slot s
  | .dispatch => Sys2Proof.Machine.execDispatch s
  | .supplyCheckLatch vdda => Sys2Proof.Machine.execSupplyCheckLatch vdda s
  | .holdExpiry => Sys2Proof.Machine.execHoldExpiry s
  | .referenceCountComplete frequency => Sys2Proof.Machine.execReferenceCountComplete frequency s
  | .referenceTimeBaseLimit frequency => Sys2Proof.Machine.execReferenceTimeBaseLimit frequency s
  | .sensorCountOverflow frequency => Sys2Proof.Machine.execSensorCountOverflow frequency s
  | .sensorWindowEnd frequency => Sys2Proof.Machine.execSensorWindowEnd frequency s
  | .periodBoundary channel => Sys2Proof.Machine.execPeriodBoundary channel s
  | .rowSlotStart => Sys2Proof.Machine.execRowSlotStart s
  | .cellOnTimeEnd column => Sys2Proof.Machine.execCellOnTimeEnd column s
  | .blankingGap => Sys2Proof.Machine.execBlankingGap s
  | .addressCharacter value => Sys2Proof.Machine.execAddressCharacter value s
  | .dataCharacter value => Sys2Proof.Machine.execDataCharacter value s
  | .stopBitError data mark => Sys2Proof.Machine.execStopBitError data mark s
  | .idleGap => Sys2Proof.Machine.execIdleGap s
  | .lineBreak => Sys2Proof.Machine.execLineBreak s
  | .lineRise => Sys2Proof.Machine.execLineRise s
  | .turnaroundEnd => Sys2Proof.Machine.execTurnaroundEnd s
  | .characterEcho data mark stop => Sys2Proof.Machine.execCharacterEcho data mark stop s
  | .driveDutyCount channel => Sys2Proof.Machine.execDriveDutyCount channel s

end Sys2Proof.Machine
end

