-- ==== Sys2Proof/Machine/Step.lean ====
section
/-! DEFINITION. One step: the row at the front of the queue is taken. -/

namespace Sys2Proof.Machine

/-- The row at the front of the queue acts on the part with the rest of the queue; on an empty queue the part idles
(DESIGN CHOICE, log 3). -/
def step (s : State) : Host.Outcome State Fault Refusal :=
  match s.pending with
  | [] => .next s
  | c :: rest => exec c { s with pending := rest }

/-- The state with the row that a word spells at the front of its queue; no word spells one (log 18). -/
def State.withFetchWord (s : State) (nbits w : Nat) : State :=
  match decodeTableWord nbits w with
  | some c => { s with pending := c :: s.pending }
  | none => s

end Sys2Proof.Machine
end

