-- ==== Sys2Proof/Machine/Pins.lean ====
section
/-! DEFINITION. The output pins and the analog switches, as functions of the state (Table 0-2, Table 4-1). While NRESET is low
every block stands in its reset state, so the outputs are at their reset levels. -/

namespace Sys2Proof.Machine

/-- LINE_DE is high (R186). -/
def State.lineDE (s : State) : Bool := s.port.isSending

/-- The character on LINE_TX while LINE_DE is high (R186). -/
def State.lineTX (s : State) : Option LineCharacter := s.port.sending.head?

/-- A channel's output is active: enabled, and the counter below the active duty (R133). -/
def DriveChannel.isActive (x : DriveChannel) : Bool := x.enabled && decide (x.counter.toNat < x.activeDuty.toNat)

/-- The pin of a channel is high (R133). -/
def DriveChannel.pinHigh (x : DriveChannel) : Bool :=
  match x.polarity with
  | .activeHigh => x.isActive
  | .activeLow => !x.isActive

/-- The pin of a row driver is high: an active row driver drives its pin high (R153, R160). -/
def State.rowHigh (s : State) (row : Fin 6) : Bool :=
  s.matrix.row == row && s.matrix.stage == .lit && s.matrix.enableCopy

/-- The pin of a column driver is low: an active column driver drives its pin low (R153). -/
def State.columnLow (s : State) (c : Column) : Bool := s.matrix.columns[c]

/-- The supply comparator is on (Table 4-1). -/
def Converter.comparatorOn (c : Converter) : Bool :=
  match c.state with
  | .supplyCheck _ => true
  | .idle => false
  | .referencePhase _ => false
  | .sensorPhase _ => false
  | .hold => false

/-- What the measuring oscillator runs on, with EXC driven; none when it is stopped (Table 4-1, R73). -/
def Converter.oscillator (c : Converter) : Option AnalogInput :=
  match c.state with
  | .referencePhase j => some j.input
  | .sensorPhase j => some j.input
  | .idle => none
  | .supplyCheck _ => none
  | .hold => none

/-- The excitation on EXC while the oscillator runs (R73). -/
def Converter.excitation (c : Converter) : Option Excitation :=
  match c.state with
  | .referencePhase j => some j.excitation
  | .sensorPhase j => some j.excitation
  | .idle => none
  | .supplyCheck _ => none
  | .hold => none

/-- The direction of the excitation current in the oscillator cycle of this index of the phase: forward or not (R73). -/
def Converter.currentForward (c : Converter) (cycle : Nat) : Option Bool := c.excitation.map (fun e => runsForward e cycle)

/-- The hold timer is running (Table 4-1). -/
def Converter.holdRunning (c : Converter) : Bool :=
  match c.state with
  | .hold => true
  | .idle => false
  | .supplyCheck _ => false
  | .referencePhase _ => false
  | .sensorPhase _ => false

end Sys2Proof.Machine
end

