-- ==== Sys2Proof/Safety.lean ====
section
/-! DEFINITION. What counts as a sound state of the part, in the terms the statements use: the rules of the book that hold of
every state a run reaches, each as a predicate of its own, and runs of several rows. -/

namespace Sys2Proof.Machine

/-- A point slot holds a LIVE point. -/
def State.isLive (s : State) (p : Slot) : Bool := (s.points[p]).any (fun r => r.state == .live)

/-- The tag map pairs each non-vacant point's tag with its slot, and no tag belongs to two slots (R4). -/
def State.TagsAgree (s : State) : Prop :=
  (∀ p : Slot, s.tagMap[p] = (s.points[p]).map PointRecord.tag) ∧
  (∀ p q : Slot, (s.tagMap[p]).isSome = true → s.tagMap[p] = s.tagMap[q] → p = q)

/-- The points bound to a reference. -/
def State.usersOf (s : State) (r : RefId) : Nat := s.countPoints (fun q => q.reference == r)

/-- The LIVE points bound to a reference. -/
def State.liveUsersOf (s : State) (r : RefId) : Nat := s.countPoints (fun q => q.reference == r && q.state == .live)

/-- The user count and the live-user count are the numbers of points that they count, and every point is bound to a defined
reference (R50). -/
def State.CountsAgree (s : State) : Prop :=
  (∀ r : RefId, ∀ x ∈ s.refs[r], x.users = s.usersOf r ∧ x.liveUsers = s.liveUsersOf r) ∧
  (∀ p : Slot, ∀ q ∈ s.points[p], (s.refs[q.reference]).isSome = true)

/-- A phase holds a job of its kind (Table 4-1). -/
def ConverterState.kindsAgree : ConverterState → Bool
  | .referencePhase j => match j.record with | .ref _ => true | .point _ => false
  | .sensorPhase j => match j.record with | .point _ => true | .ref _ => false
  | .idle => true
  | .supplyCheck _ => true
  | .hold => true

/-- The due queue, the converter and the records agree: at most one entry a record and none for the current job (R92); a point
has an entry or is the current job exactly when it is LIVE (R96); a reference holds an entry exactly while it is not the
current job and has live users or a request (R97); the current reference job is the CALIBRATING reference, with a prior state
that is not CALIBRATING (R47, R48); a phase holds a job of its kind (R64). -/
def State.ScheduleSound (s : State) : Prop :=
  (s.queue.map QueueEntry.record).Nodup ∧
  (∀ p : Slot, s.isCurrent (.point p) = true → s.entryOf (.point p) = none) ∧
  (∀ r : RefId, s.isCurrent (.ref r) = true → s.entryOf (.ref r) = none) ∧
  (∀ p : Slot, ((s.entryOf (.point p)).isSome || s.isCurrent (.point p)) = s.isLive p) ∧
  (∀ r : RefId, (s.entryOf (.ref r)).isSome =
    (!s.isCurrent (.ref r) && (s.refs[r]).any (fun x => decide (0 < x.liveUsers) || x.request))) ∧
  (∀ r : RefId, s.isCurrent (.ref r) = (s.refs[r]).any (fun x => x.state == .calibrating)) ∧
  (∀ r : RefId, ∀ x ∈ s.refs[r], (x.state == .calibrating) = x.prior.isSome ∧ x.prior ≠ some .calibrating) ∧
  s.converter.state.kindsAgree = true

/-- Marked entries stand ahead of unmarked ones (R94). -/
def State.MarkedFirst (s : State) : Prop := s.queue.Pairwise (fun x y => y.mark = true → x.mark = true)

/-- The sources of frames handed to the executor lie within 1-15 (R27, R179). -/
def State.SourceSound (s : State) : Prop := ∀ f ∈ s.port.command, 1 ≤ f.source.toNat ∧ f.source.toNat ≤ 15

/-- A channel's binding and a point's drive binding name each other; a bound channel is in OWN mode with the point's owner, and
is not unowned; D0 is never in FOLLOW mode (R146). -/
def State.BindingsAgree (s : State) : Prop :=
  (∀ p : Slot, ∀ c : ChannelId, ((s.points[p]).bind PointRecord.binding = some c ↔ s.channels[c].binding = some p)) ∧
  (∀ c : ChannelId, ∀ p ∈ s.channels[c].binding, s.channels[c].mode = .own ∧ s.channels[c].owner ≠ 0 ∧
    (s.points[p]).map PointRecord.owner = some s.channels[c].owner) ∧
  s.channels[(0 : ChannelId)].mode = .own

/-- Every member of the notice set is a non-vacant point whose notify flag is on or a defined reference (R162). -/
def State.NoticesBacked (s : State) : Prop :=
  (∀ p : Slot, s.noticePoints[p] = true → (s.points[p]).any PointRecord.notify = true) ∧
  (∀ r : RefId, s.noticeRefs[r] = true → (s.refs[r]).isSome = true)

/-- The definition fields of a record are within their ranges and meet the band constraints (Table 1-1, R3). -/
def PointRecord.inRange (r : PointRecord) : Bool :=
  decide (1 ≤ r.owner.toNat) && decide (r.owner.toNat ≤ 15) && r.tag != 0 && r.interval != 0 &&
  decide (2 ≤ r.staleFactor.toNat) && decide (r.staleFactor.toNat ≤ 15) &&
  decide (1 ≤ r.faultLimit.toNat) && decide (r.faultLimit.toNat ≤ 15) &&
  bandConstraints r.bandLow r.bandHigh r.hysteresis

/-- A fault grade of a result. -/
def Quality.isFault : Quality → Bool
  | .open => true
  | .short => true
  | .refFault => true
  | .none => false
  | .good => false
  | .clamped => false
  | .stale => false

/-- A value-bearing grade of a result. -/
def Quality.isValue : Quality → Bool
  | .good => true
  | .clamped => true
  | .none => false
  | .open => false
  | .short => false
  | .refFault => false
  | .stale => false

/-- State, quality and alarm state form one of the rows of Table 6-3 (R130). -/
def PointRecord.healthPair (r : PointRecord) : Bool :=
  match r.state, r.alarm with
  | .dormant, .unknown => true
  | .live, .unknown => true
  | .live, .normal => r.quality.isValue
  | .live, .low => r.quality.isValue
  | .live, .high => r.quality.isValue
  | .live, .fault => r.quality.isFault || r.quality == .stale
  | .held, .fault => r.quality.isFault
  | _, _ => false

/-- A record as chapters 1 and 6 keep it: fields in range (R3), a pair of Table 6-3 with a last value exactly as it says (R130), a
LIVE point's fault count below its limit (R120) and every fault count at most 15 (Table 1-1), a deadline only on a LIVE point (R124),
an offer to another controller than the owner (R35). -/
def PointRecord.sound (r : PointRecord) : Bool :=
  r.inRange && r.healthPair &&
  (r.quality != .none || r.lastValue.isNone) && (!r.quality.isValue || r.lastValue.isSome) &&
  (r.lastValue.isSome == r.resultTime.isSome) &&
  (r.state != .live || decide (r.faults < r.faultLimit.toNat)) &&
  (r.state == .live || r.deadline.isNone) &&
  decide (r.faults ≤ 15) &&
  r.offer.all (fun o => decide (1 ≤ o.recipient.toNat) && decide (o.recipient.toNat ≤ 15) && o.recipient != r.owner)

/-- Every record of the point table is sound. -/
def State.PointsSound (s : State) : Prop := ∀ p : Slot, ∀ r ∈ s.points[p], r.sound = true

/-- A reference record as chapter 3 keeps it: VALID with a count and a calibration time, UNCAL and FAULTED without a count,
CALIBRATING with a count exactly when its prior state is VALID, and then with a calibration time (R48); fault time with last fault
(R47); span at least 256 and a recalibration interval, stored and used (R53, R55). -/
def RefRecord.sound (x : RefRecord) : Bool :=
  (match x.state with
   | .valid => x.count.isSome && x.calTime.isSome
   | .uncal => x.count.isNone
   | .faulted => x.count.isNone && x.lastFault.isSome
   | .calibrating => x.count.isSome == (x.prior == some .valid) && (x.prior != some .faulted || x.lastFault.isSome) &&
     (x.prior != some .valid || x.calTime.isSome)) &&
  (x.lastFault.isSome == x.faultTime.isSome) && decide (256 ≤ x.span.toNat) && x.recal != 0 && x.usedRecal != 0 &&
  (x.count.all (fun t => decide (64 ≤ t.toNat)))

/-- Every record of the reference table is sound. -/
def State.RefsSound (s : State) : Prop := ∀ r : RefId, ∀ x ∈ s.refs[r], x.sound = true

/-- A channel as chapter 7 keeps it: a disabled channel holds no pending period, a follower holds no pending duty, and no period
is below 2 (R132, R137). -/
def DriveChannel.sound (x : DriveChannel) : Bool :=
  (x.enabled || x.pendingPeriod.isNone) && (x.mode == .own || x.pendingDuty.isNone) &&
  decide (2 ≤ x.activePeriod.toNat) && x.pendingPeriod.all (fun v => decide (2 ≤ v.toNat))

/-- Every channel is sound. -/
def State.ChannelsSound (s : State) : Prop := ∀ c : ChannelId, s.channels[c].sound = true

/-- The line port as chapter 10 keeps it: at most 80 characters, and none outside COLLECTING (Table 10-2); a reply waits or is sent
only in ADDRESS_WAIT, one at a time, and the reply buffer holds a reply only then (R182, R184, R186); nothing is sent without
the reply in the buffer. -/
def Port.sound (p : Port) : Bool :=
  decide (p.buffer.length ≤ Config.bufferSize) &&
  (match p.rx with
   | .collecting _ => !p.turnaround && !p.isSending
   | .addressWait => p.buffer.isEmpty
   | .discarding => p.buffer.isEmpty && !p.turnaround && !p.isSending) &&
  !(p.turnaround && p.isSending) && (p.reply.isNone || p.turnaround || p.isSending) &&
  (!p.isSending || p.reply.isSome)

/-- A point whose owner differs from the owner of its reference is bound to an open reference or is owned by the service
controller (R31). -/
def State.SharingSound (s : State) : Prop :=
  ∀ p : Slot, ∀ q ∈ s.points[p], ∀ x ∈ s.refs[q.reference], x.owner = q.owner ∨ x.isOpen = true ∨ q.owner = Config.service

/-! ### The terms in which the statements describe a command and its completion -/

/-- The part runs and its command buffer holds this frame (R179, R182). -/
def State.holds (s : State) (kind : FrameKind) (source code : Byte) (payload : List Byte) : Prop :=
  s.inReset = false ∧ s.port.command = some ⟨kind, source, code, payload⟩

/-- The port once the command is completed with a reply: the command buffer free, the reply of a directed frame in the reply
buffer while its turnaround lasts (R182, R185), everything else as it was. -/
def State.answered (s : State) (kind : FrameKind) (source code : Byte) (payload : List Byte) : Port :=
  { s.port with
    command := none
    reply := if kind = .directed ∧ s.port.turnaround = true then some ⟨source, code, payload⟩ else s.port.reply }

/-- The source may change a record of this owner: it is the owner, or the service controller (R28). -/
def admitted (source owner : Byte) : Prop := source = owner ∨ source = Config.service

/-- Bytes `first` to `last` of a payload, counted from 1 as Tables 10-7 to 10-10 count them. -/
def slice (payload : List Byte) (first last : Nat) : List Byte := (payload.drop (first - 1)).take (last + 1 - first)

/-- A drive binding as one byte (Table 10-6). -/
def bindingByte : Option ChannelId → Byte
  | some c => channelByte c
  | none => 0xFF

/-- The sixteen bytes from tag to binding of DEFINE_POINT and AMEND_POINT (Table 10-5). -/
def PointFields.bytes (f : PointFields) : List Byte :=
  be16 f.tag ++ [f.input, f.reference] ++ be16 f.interval ++ [f.staleFactor, f.faultLimit] ++ be16 f.bandLow ++
  be16 f.bandHigh ++ be16 f.hysteresis ++ [f.notify, f.binding]

/-- The fields that define a point as the payload carries them (Tables 10-5, 10-6). -/
def PointRecord.fields (r : PointRecord) : PointFields :=
  { tag := r.tag, input := sensorByte r.input, reference := refByte r.reference, interval := r.interval,
    staleFactor := r.staleFactor, faultLimit := r.faultLimit, bandLow := r.bandLow, bandHigh := r.bandHigh,
    hysteresis := r.hysteresis, notify := flagByte r.notify, binding := bindingByte r.binding }

/-- The ranges of the fields that define a point (Table 1-1, R8). -/
def PointRecord.fieldsInRange (r : PointRecord) : Prop :=
  r.tag ≠ 0 ∧ r.interval ≠ 0 ∧ 2 ≤ r.staleFactor.toNat ∧ r.staleFactor.toNat ≤ 15 ∧ 1 ≤ r.faultLimit.toNat ∧
  r.faultLimit.toNat ≤ 15

/-- The band constraints (R3). -/
def PointRecord.bandFits (r : PointRecord) : Prop :=
  r.bandLow.toNat < r.bandHigh.toNat ∧ 2 * r.hysteresis.toNat ≤ r.bandHigh.toNat - r.bandLow.toNat

/-- Record `n` is record `r` amended by the fields that the mask marks as present (R11, Table 10-6): every field that is absent, and
every field that is not a definition field, is as in `r`. The value position of an absent field may hold anything. -/
def amends (mask : Half) (f : PointFields) (r n : PointRecord) : Prop :=
  n.state = r.state ∧ n.owner = r.owner ∧ n.lastValue = r.lastValue ∧ n.quality = r.quality ∧ n.alarm = r.alarm ∧
  n.faults = r.faults ∧ n.resultTime = r.resultTime ∧ n.deadline = r.deadline ∧ n.offer = r.offer ∧ n.locate = r.locate ∧
  (if mask.getLsbD 0 then f.tag = n.tag else n.tag = r.tag) ∧
  (if mask.getLsbD 1 then f.input = sensorByte n.input else n.input = r.input) ∧
  (if mask.getLsbD 2 then f.reference = refByte n.reference else n.reference = r.reference) ∧
  (if mask.getLsbD 3 then f.interval = n.interval else n.interval = r.interval) ∧
  (if mask.getLsbD 4 then f.staleFactor = n.staleFactor else n.staleFactor = r.staleFactor) ∧
  (if mask.getLsbD 5 then f.faultLimit = n.faultLimit else n.faultLimit = r.faultLimit) ∧
  (if mask.getLsbD 6 then f.bandLow = n.bandLow else n.bandLow = r.bandLow) ∧
  (if mask.getLsbD 7 then f.bandHigh = n.bandHigh else n.bandHigh = r.bandHigh) ∧
  (if mask.getLsbD 8 then f.hysteresis = n.hysteresis else n.hysteresis = r.hysteresis) ∧
  (if mask.getLsbD 9 then f.notify = flagByte n.notify else n.notify = r.notify) ∧
  (if mask.getLsbD 10 then f.binding = bindingByte n.binding else n.binding = r.binding)

/-- Of an ordered list of checks, each with its refusal code, the first that fails has this code (R188). -/
def firstFailing : List (Prop × Byte) → Byte → Prop
  | [], _ => False
  | (passes, refusal) :: rest, code => (¬ passes ∧ code = refusal) ∨ (passes ∧ firstFailing rest code)

/-- The slot that DEFINE_POINT fills: the named one, or the lowest that is VACANT for 255 (R10). -/
def State.chosen (s : State) (slot : Byte) (p : Slot) : Prop :=
  slot = slotByte p ∨ (slot = 255 ∧ s.points[p] = none ∧ ∀ q : Slot, q < p → s.points[q] ≠ none)

/-- A binding byte names a channel or none (Table 10-6). -/
def bindingInRange (b : Byte) : Prop := b.toNat < 8 ∨ b = 255

/-- The drive binding test, in its order, for a point of this owner that goes to one of these slots (R7 check 7). -/
def bindingChecks (s : State) (binding owner : Byte) (goesTo : Slot → Prop) : List (Prop × Byte) :=
  [(∀ c : ChannelId, binding = channelByte c → s.channels[c].owner = owner, 0x18),
   (∀ c : ChannelId, binding = channelByte c → s.channels[c].mode = .own, 0x1D),
   (∀ (c : ChannelId) (p : Slot), binding = channelByte c → goesTo p →
      s.channels[c].binding = none ∨ s.channels[c].binding = some p, 0x1A)]

/-- The checks of DEFINE_POINT after its length, in their order (R7, R8, R10). -/
def definePointChecks (s : State) (source slot : Byte) (f : PointFields) : List (Prop × Byte) :=
  [(slot.toNat < 48 ∨ slot = 255, 0x12),
   (f.reference.toNat < 4 ∧ bindingInRange f.binding, 0x12),
   (∀ p : Slot, slot = slotByte p → s.points[p] = none, 0x13),
   (slot = 255 → ∃ p : Slot, s.points[p] = none, 0x15),
   (∀ k : RefId, f.reference = refByte k → s.refs[k] ≠ none, 0x16),
   (f.tag ≠ 0 ∧ f.input.toNat ≤ 15 ∧ f.interval ≠ 0 ∧ (2 ≤ f.staleFactor.toNat ∧ f.staleFactor.toNat ≤ 15) ∧
      (1 ≤ f.faultLimit.toNat ∧ f.faultLimit.toNat ≤ 15) ∧ f.hysteresis.toNat ≤ 32767 ∧ f.notify.toNat ≤ 1, 0x1B),
   (f.bandLow.toNat < f.bandHigh.toNat ∧ 2 * f.hysteresis.toNat ≤ f.bandHigh.toNat - f.bandLow.toNat, 0x1C),
   (∀ q : Slot, s.tagMap[q] ≠ some f.tag, 0x17),
   (∀ k : RefId, f.reference = refByte k → ∀ x ∈ s.refs[k], x.owner = source ∨ x.isOpen = true ∨ source = 15, 0x21)] ++
  bindingChecks s f.binding source (s.chosen slot)

/-- The present reference and the present binding of an AMEND_POINT payload are within range (R12 check 2). -/
def namesInRange (mask : Half) (f : PointFields) : Prop :=
  (mask.getLsbD 2 = true → f.reference.toNat < 4) ∧ (mask.getLsbD 10 = true → bindingInRange f.binding)

/-- The present reference of an AMEND_POINT payload is defined (R12 check 3). -/
def State.referenceDefined (s : State) (mask : Half) (f : PointFields) : Prop :=
  mask.getLsbD 2 = true → ∀ k : RefId, f.reference = refByte k → s.refs[k] ≠ none

/-- The band constraints on the band fields as an amendment would leave them (R12 check 6). -/
def amendedBandFits (mask : Half) (f : PointFields) (r : PointRecord) : Prop :=
  let low := if mask.getLsbD 6 then f.bandLow else r.bandLow
  let high := if mask.getLsbD 7 then f.bandHigh else r.bandHigh
  let hysteresis := if mask.getLsbD 8 then f.hysteresis else r.hysteresis
  low.toNat < high.toNat ∧ 2 * hysteresis.toNat ≤ high.toNat - low.toNat

/-- The checks of AMEND_POINT on the non-vacant slot `p` with record `r` after its length and its slot, in their order (R12). -/
def amendPointChecks (s : State) (source : Byte) (p : Slot) (r : PointRecord) (mask : Half) (f : PointFields) :
    List (Prop × Byte) :=
  [(namesInRange mask f, 0x12),
   (s.referenceDefined mask f, 0x16),
   (admitted source r.owner, 0x18),
   (r.state = .live → mask.getLsbD 1 = false ∧ mask.getLsbD 2 = false ∧ mask.getLsbD 3 = false ∧
      mask.getLsbD 4 = false ∧ mask.getLsbD 5 = false, 0x19),
   (mask.toNat < 2048 ∧ (mask.getLsbD 0 = true → f.tag ≠ 0) ∧ (mask.getLsbD 1 = true → f.input.toNat ≤ 15) ∧
      (mask.getLsbD 3 = true → f.interval ≠ 0) ∧
      (mask.getLsbD 4 = true → 2 ≤ f.staleFactor.toNat ∧ f.staleFactor.toNat ≤ 15) ∧
      (mask.getLsbD 5 = true → 1 ≤ f.faultLimit.toNat ∧ f.faultLimit.toNat ≤ 15) ∧
      (mask.getLsbD 8 = true → f.hysteresis.toNat ≤ 32767) ∧ (mask.getLsbD 9 = true → f.notify.toNat ≤ 1), 0x1B),
   (mask ≠ 0 → amendedBandFits mask f r, 0x1C),
   (mask.getLsbD 0 = true → ∀ q : Slot, q ≠ p → s.tagMap[q] ≠ some f.tag, 0x17),
   (mask.getLsbD 2 = true → ∀ k : RefId, f.reference = refByte k → ∀ x ∈ s.refs[k],
      x.owner = r.owner ∨ x.isOpen = true ∨ r.owner = 15, 0x21)] ++
  bindingChecks s (if mask.getLsbD 10 then f.binding else 255) r.owner (fun q => q = p)

/-- The eight bytes of the four levels (Table 10-5). -/
def Levels.bytes (l : Levels) : List Byte := be16 l.normal ++ be16 l.low ++ be16 l.high ++ be16 l.safe

/-- The channels after a point's bound channel, if it has one, has been asked for one of its levels (R122). -/
def State.channelsAsked (s : State) (binding : Option ChannelId) (level : Levels → Half) : Vector DriveChannel 8 :=
  match binding with
  | some c => s.channels.set c { s.channels[c] with pendingDuty := some (level s.channels[c].levels) }
  | none => s.channels

/-- A bound channel, if there is one, is in OWN mode, as R146 keeps it. -/
def State.ownMode (s : State) (binding : Option ChannelId) : Prop := ∀ c ∈ binding, s.channels[c].mode = .own

/-- A discard count after one more discard (R181). -/
def counted (n : Half) : Half := if n = 65535 then 65535 else n + 1

/-- The rows that complete a command, with the code and the payload length of Table 10-5. -/
def commandTable : List (Instr × Byte × Nat) :=
  [(.definePoint, 0x10, 17), (.amendPoint, 0x11, 19), (.startPoint, 0x12, 1), (.stopPoint, 0x13, 1), (.retirePoint, 0x14, 1),
   (.readPoint, 0x15, 1), (.findTag, 0x16, 2), (.listPoints, 0x17, 2), (.offerPoint, 0x20, 3), (.withdrawOffer, 0x21, 1),
   (.takePoint, 0x22, 1), (.assignOwner, 0x23, 2), (.defineRef, 0x30, 7), (.amendRef, 0x31, 8), (.calibrateRef, 0x32, 1),
   (.readRef, 0x33, 1), (.retireRef, 0x34, 1)] ++
  [(.measureNow, 0x40, 1), (.measureOwned, 0x41, 0), (.configureDrive, 0x50, 15), (.setDriveLevels, 0x51, 9),
   (.setDrivePeriod, 0x52, 3), (.setManualDuty, 0x53, 3), (.enableDrive, 0x54, 1), (.disableDrive, 0x55, 1),
   (.releaseDrive, 0x56, 1), (.readDrive, 0x57, 1), (.locatePoint, 0x60, 2), (.readNotices, 0x70, 0), (.readStatus, 0x71, 0),
   (.clearCauses, 0x72, 0), (.setDevice, 0x73, 5), (.clearTables, 0x74, 0)]

/-- The rows whose payload begins with a slot that must be non-vacant (R7, R36 to R43, R106, R158). -/
def pointCommands : List Instr :=
  [.amendPoint, .startPoint, .stopPoint, .retirePoint, .readPoint, .offerPoint, .withdrawOffer, .takePoint, .assignOwner,
   .measureNow, .locatePoint]

/-- The rows whose payload begins with a reference that must be defined (R52). -/
def refCommands : List Instr := [.amendRef, .calibrateRef, .readRef, .retireRef]

/-- The rows whose payload begins with a channel (R138). -/
def driveCommands : List Instr :=
  [.configureDrive, .setDriveLevels, .setDrivePeriod, .setManualDuty, .enableDrive, .disableDrive, .releaseDrive, .readDrive]

/-- The part after a fault outcome of grade `q` for a LIVE point in slot `p`, whose reference has record `x`, from a job with this
start time (R119 to R123, R98): the point's record, its entry, the live-user count and the reference's entry, the notice set and
the bound channel; everything else is as it was. -/
def State.afterFault (s : State) (p : Slot) (r : PointRecord) (x : RefRecord) (start : Clock) (q : Quality) : State :=
  let held := r.faultLimit.toNat ≤ r.faults + 1
  let told := r.alarm ≠ .fault ∨ held
  { s with
    points := s.points.set p (some { r with
      state := if held then .held else r.state
      quality := q
      faults := r.faults + 1
      alarm := .fault
      deadline := if held then none else r.deadline })
    refs := if held then s.refs.set r.reference (some { x with liveUsers := x.liveUsers - 1 }) else s.refs
    queue :=
      if held then if x.liveUsers = 1 ∧ x.request = false then removeFrom s.queue (.ref r.reference) else s.queue
      else insertInto s.queue (.point p) (start + r.interval.setWidth 32 * 10) s.clock
    noticePoints := if told ∧ r.notify = true then s.noticePoints.set p true else s.noticePoints
    channels := if told then s.channelsAsked r.binding Levels.safe else s.channels }

/-- The rows of a list are taken one after another. -/
def runRows : List Instr → State → Step
  | [], s => .next s
  | c :: cs, s =>
    match exec c s with
    | .next t => runRows cs t
    | .fault r => .fault r
    | .refused r => .refused r

/-- The rows by which a command frame reaches the part: its address character, its data characters with the check, and the idle
gap that ends it (Table 10-4, R179, R180). -/
def frameRows (address source code : Byte) (payload : List Byte) : List Instr :=
  let body := source :: code :: countByte payload.length :: payload
  .addressCharacter address :: (body ++ be16 (frameCheck body)).map Instr.dataCharacter ++ [.idleGap]

end Sys2Proof.Machine
end

