-- ==== Sys2Proof/Certificates/Slice0/Obligations.lean ====
section
/-! DEFINITION. The statements for the provers. A statement about a row says the whole next state: the record of State after the
row is the record before it with the named fields replaced, so what it does not name is unchanged. -/

open Sys2Proof Sys2Proof.Machine

/-! ### The machine -/

/-- A step takes the row at the front of the queue and answers what the row answers on the rest; an empty queue idles, which is the
model's choice (log 3). -/
def Obligations.StepTakesTheFrontRow : Prop :=
  (∀ (c : Instr) (rest : List Instr) (s : State),
    step { s with pending := c :: rest } = exec c { s with pending := rest }) ∧
  (∀ s : State, s.pending = [] → step s = .next s)

/-- Every row answers a next state from every state, and leaves the queue of waiting rows as it is. That no rule stops the part is
read from the book by inference (log 19); that a row without its condition changes nothing, and that the queue survives a reset,
are the model's own (logs 2 and 11). -/
def Obligations.EveryRowAnswersNextAndKeepsTheQueue : Prop :=
  ∀ (c : Instr) (s : State), ∃ t, exec c s = .next t ∧ t.pending = s.pending

/-- The state right after reset is as Table 9-4 gives it, and it meets every invariant that the statements below keep. The levels on
the strap pins and the count of a stopped drive counter are the model's choices (logs 5 and 8) and are not stated; of the straps
only the range of the drop address. The scan stands at the start of the ROW0 slot with every cell and every driver off. -/
def Obligations.ResetStateIsAsTheBookGivesItAndSound : Prop :=
  State.reset.inReset = false ∧ State.reset.clock = 0 ∧ State.reset.queue = [] ∧ State.reset.pending = [] ∧
  (∀ p : Slot, State.reset.points[p] = none ∧ State.reset.tagMap[p] = none ∧ State.reset.noticePoints[p] = false) ∧
  (∀ r : RefId, State.reset.refs[r] = none ∧ State.reset.noticeRefs[r] = false) ∧
  State.reset.converter = { state := .idle, measurement := 0, timeBase := 0 } ∧
  (∀ c : ChannelId, ∃ k : Half, State.reset.channels[c] =
    { owner := 0, enabled := false, polarity := .activeHigh, mode := .own, activePeriod := 1000, activeDuty := 0,
      pendingPeriod := none, pendingDuty := none, levels := ⟨0, 0, 0, 0⟩, manualDuty := 0, binding := none, counter := k }) ∧
  State.reset.matrix.row = 0 ∧ State.reset.matrix.stage = .slotStart ∧ State.reset.matrix.enableCopy = true ∧
  State.reset.matrix.lampTestCopy = false ∧ (∀ r : Fin 6, State.reset.rowHigh r = false) ∧
  (∀ c : Column, State.reset.matrix.onTimes[c] = .off ∧ State.reset.columnLow c = false) ∧
  State.reset.causes = { supplyLow := false, lineContention := false, tableCleared := true } ∧
  State.reset.settings = { floor := 2, alertEnable := true, matrixEnable := true, lampTest := false } ∧
  State.reset.port.rx = .addressWait ∧ State.reset.port.buffer = [] ∧ State.reset.port.command = none ∧
  State.reset.port.turnaround = false ∧ State.reset.port.reply = none ∧ State.reset.port.sending = [] ∧
  State.reset.port.discardCount = 0 ∧ State.reset.port.lastDiscard = none ∧
  32 ≤ State.reset.dropAddress.toNat ∧ State.reset.dropAddress.toNat ≤ 39 ∧
  State.reset.alertLow = true ∧ State.reset.lineDE = false ∧
  (∀ c : ChannelId, State.reset.channels[c].pinHigh = false) ∧
  State.reset.TagsAgree ∧ State.reset.ScheduleSound ∧ State.reset.CountsAgree ∧ State.reset.MarkedFirst ∧
  State.reset.SourceSound ∧ State.reset.BindingsAgree ∧ State.reset.NoticesBacked ∧ State.reset.PointsSound ∧
  State.reset.RefsSound ∧ State.reset.SharingSound ∧ State.reset.ChannelsSound ∧ State.reset.port.sound = true

/-- NRESET low puts every block in its reset state, from any state, with the outputs released or low; while it is low no other row
has an effect; when it rises, the straps are latched and the part starts. That the blocks stand at their reset values already while
NRESET is low is read from the book by inference (log 11). -/
def Obligations.HardwareResetHoldsThePartUntilItsRelease : Prop :=
  (∀ s : State,
    let t := { State.reset with
      inReset := true, addrStrap := s.addrStrap, rateStrap := s.rateStrap, pending := s.pending }
    exec .hardwareReset s = .next t ∧ t.alertLow = false ∧ t.lineDE = false ∧
    (∀ c : ChannelId, t.channels[c].pinHigh = false) ∧ (∀ r : Fin 6, t.rowHigh r = false) ∧
    (∀ c : Column, t.columnLow c = false)) ∧
  (∀ (s : State) (addr : BitVec 3) (rate : BitVec 2), s.inReset = true →
    let t := { State.reset with inReset := false, addrStrap := addr, rateStrap := rate, pending := s.pending }
    exec (.resetRelease addr rate) s = .next t ∧ t.dropAddress.toNat = 32 + addr.toNat ∧ t.alertLow = true) ∧
  (∀ (s : State) (c : Instr), s.inReset = true → c ≠ .hardwareReset → (∀ addr rate, c ≠ .resetRelease addr rate) →
    exec c s = .next s)

/-! ### Invariants that every step keeps -/

/-- The tag map agrees with the point table after every step (R4). -/
def Obligations.TagsAgreeAfterEveryStep : Prop :=
  ∀ s t : State, s.TagsAgree → step s = .next t → t.TagsAgree

/-- The due queue, the converter, the LIVE points and the reference table agree after every step (R92, R96, R97, R48). -/
def Obligations.ScheduleSoundAfterEveryStep : Prop :=
  ∀ s t : State, s.ScheduleSound → step s = .next t → t.ScheduleSound

/-- User counts and live-user counts are the numbers of points that they count after every step (R50). -/
def Obligations.CountsAgreeAfterEveryStep : Prop :=
  ∀ s t : State, s.ScheduleSound → s.CountsAgree → step s = .next t → t.CountsAgree

/-- Marked entries stand ahead of unmarked ones after every step (R94). -/
def Obligations.MarkedEntriesStayFirst : Prop :=
  ∀ s t : State, s.MarkedFirst → step s = .next t → t.MarkedFirst

/-- Bindings name each other, with mode and owner, after every step (R146); sources within 1-15 are what the line port hands over
(R27), and sound points have an owner within 1-15 (Table 1-1). -/
def Obligations.BindingsAgreeAfterEveryStep : Prop :=
  ∀ s t : State, s.SourceSound → s.PointsSound → s.BindingsAgree → step s = .next t → t.BindingsAgree

/-- Every member of the notice set is a non-vacant point with notify on or a defined reference after every step (R162). -/
def Obligations.NoticesBackedAfterEveryStep : Prop :=
  ∀ s t : State, s.NoticesBacked → step s = .next t → t.NoticesBacked

/-- Every point record stays sound: ranges and band constraints (R3), a pair of Table 6-3 (R130), a LIVE point's fault count below
its limit (R120), fault counts of at most 15 and offers to a controller 1-15 other than the owner (Table 1-1, R35), deadlines
(R124). -/
def Obligations.PointsSoundAfterEveryStep : Prop :=
  ∀ s t : State, s.ScheduleSound → s.SourceSound → s.PointsSound → step s = .next t → t.PointsSound

/-- Every reference record stays sound: a VALID reference holds a count and a calibration time, UNCAL and FAULTED ones no count, and
a CALIBRATING one what its prior state needs (R47, R48). -/
def Obligations.RefsSoundAfterEveryStep : Prop :=
  ∀ s t : State, s.ScheduleSound → s.RefsSound → step s = .next t → t.RefsSound

/-- The open-reference condition holds of every point after every step (R31). -/
def Obligations.SharingSoundAfterEveryStep : Prop :=
  ∀ s t : State, s.CountsAgree → s.SharingSound → step s = .next t → t.SharingSound

/-- Every drive channel stays sound: no pending period while disabled, no pending duty on a follower, periods of at least 2 (R132,
R137). -/
def Obligations.ChannelsSoundAfterEveryStep : Prop :=
  ∀ s t : State, s.ChannelsSound → step s = .next t → t.ChannelsSound

/-- The line port stays sound, and what it hands to the executor carries a source of 1-15 (Table 10-2, R27, R182). -/
def Obligations.LinePortSoundAfterEveryStep : Prop :=
  (∀ s t : State, s.port.sound = true → step s = .next t → t.port.sound = true) ∧
  (∀ s t : State, s.SourceSound → step s = .next t → t.SourceSound)

/-- An enabled drive channel changes its active period or active duty only at one of its own period boundaries (R134). -/
def Obligations.EnabledChannelChangesOnlyAtItsBoundary : Prop :=
  ∀ (s t : State) (c : ChannelId), step s = .next t → s.channels[c].enabled = true → t.channels[c].enabled = true →
    s.pending.head? ≠ some (.periodBoundary c) →
    t.channels[c].activePeriod = s.channels[c].activePeriod ∧ t.channels[c].activeDuty = s.channels[c].activeDuty

/-! ### The clock, the due queue, the evaluator's judgement, the matrix patterns -/

/-- The schedule clock step adds 1 modulo 2^32 and changes nothing else; no other row but hardware reset writes the clock; spans are
added modulo 2^32, as the book's example shows (R90). Two clock values compare through their difference read as a signed 32-bit
number (R91). Entries fall due at the boundary of the marked and the unmarked entries, without any reordering (R93, R94): the first
unmarked entry is marked when its due time has come; that one row marks one entry is read from the book by inference (log 12), and
that a row before that time changes nothing is the model's choice (log 2). -/
def Obligations.TheClockStepsComparesAndMakesEntriesDue : Prop :=
  (∀ s : State, s.inReset = false → exec .scheduleClockStep s = .next { s with clock := s.clock + 1 }) ∧
  (4294967295 : Clock) + 1 = 0 ∧ (4294960000 : Clock) + secondsMs 10 = 2704 ∧
  (∀ (c : Instr) (s t : State), exec c s = .next t → c ≠ .scheduleClockStep → c ≠ .hardwareReset →
    (∀ addr rate, c ≠ .resetRelease addr rate) → t.clock = s.clock) ∧
  (∀ (s t : State), exec .hardwareReset s = .next t → t.clock = 0) ∧
  (∀ a b : Clock,
    (atOrBefore a b = true ↔ 0 ≤ (b - a).toInt) ∧ (atOrBefore a b = true ↔ (b - a).toNat ≤ 2147483647) ∧
    (isAfter a b = true ↔ ¬ atOrBefore a b = true) ∧ (isEarlier a b = true ↔ atOrBefore a b = true ∧ a ≠ b)) ∧
  (∀ (s : State), s.inReset = false →
    (∀ (a b : List QueueEntry) (e : QueueEntry), s.queue = a ++ e :: b → (∀ x ∈ a, x.mark = true) → e.mark = false →
      (atOrBefore e.due s.clock = true →
        exec .fallingDue s = .next { s with queue := a ++ { e with mark := true } :: b }) ∧
      (atOrBefore e.due s.clock = false → exec .fallingDue s = .next s)) ∧
    ((∀ x ∈ s.queue, x.mark = true) → exec .fallingDue s = .next s))

/-- An entry precedes another by the four tests, and an entry that is placed goes immediately ahead of the first entry that it
precedes, or at the tail, with the others in their order (R94). That due times are compared by R91 also between two marked entries,
where R93 says that a long-held entry is still taken first, is the model's choice (log 27). -/
def Obligations.EntriesAreOrderedAndPlacedByTheFourTests : Prop :=
  (∀ x y : QueueEntry, precedes x y = true ↔
    (x.mark = true ∧ y.mark = false) ∨
    (x.mark = y.mark ∧ isEarlier x.due y.due = true) ∨
    (x.mark = y.mark ∧ x.due = y.due ∧ (∃ a b, x.record = .ref a ∧ y.record = .point b)) ∨
    (x.mark = y.mark ∧ x.due = y.due ∧
      ((∃ a b, x.record = .ref a ∧ y.record = .ref b ∧ a < b) ∨
       (∃ a b, x.record = .point a ∧ y.record = .point b ∧ a < b)))) ∧
  (∀ (e : QueueEntry) (q : List QueueEntry), ∃ a b, q = a ++ b ∧ placeEntry e q = a ++ e :: b ∧
    (∀ x ∈ a, precedes e x = false) ∧ (∀ y ∈ b.head?, precedes e y = true))

/-- Insert, insert of a returned job, move and remove act as their table says (R95), on the record's entry and on no other; the due time
that a reference gains with its first live user follows the first three lines of Table 5-3 (R97). That the interval of the first line
is the one that the last successful calibration used, as R55 has it, and not one amended since, is the model's reading (log 23). -/
def Obligations.QueueRequestsAndDueTimesFollowTheirTables : Prop :=
  (∀ (q : List QueueEntry) (k : Record) (due now : Clock),
    (∀ e, entryIn q k = some e →
      insertInto q k due now = q ∧ returnInto q k due = q ∧
      moveWithin q k due now = placeEntry ⟨k, due, atOrBefore due now⟩ (removeFrom q k)) ∧
    (entryIn q k = none →
      insertInto q k due now = placeEntry ⟨k, due, atOrBefore due now⟩ q ∧ returnInto q k due = placeEntry ⟨k, due, true⟩ q ∧
      moveWithin q k due now = q ∧ removeFrom q k = q) ∧
    entryIn (insertInto q k due now) k = some ((entryIn q k).getD ⟨k, due, atOrBefore due now⟩) ∧
    entryIn (returnInto q k due) k = some ((entryIn q k).getD ⟨k, due, true⟩) ∧
    entryIn (moveWithin q k due now) k = (entryIn q k).map (fun _ => ⟨k, due, atOrBefore due now⟩) ∧
    entryIn (removeFrom q k) k = none ∧
    (∀ j, j ≠ k → entryIn (insertInto q k due now) j = entryIn q j ∧ entryIn (returnInto q k due) j = entryIn q j ∧
      entryIn (moveWithin q k due now) j = entryIn q j ∧ entryIn (removeFrom q k) j = entryIn q j)) ∧
  (∀ (x : RefRecord) (now : Clock),
    (∀ c, x.state = .valid → x.calTime = some c →
      (atOrBefore now (c + x.usedRecal.setWidth 32 * 1000) = true → atOrBefore c now = true →
        refDue x now = c + x.usedRecal.setWidth 32 * 1000) ∧
      (¬ (atOrBefore now (c + x.usedRecal.setWidth 32 * 1000) = true ∧ atOrBefore c now = true) → refDue x now = now)) ∧
    (∀ f, x.state = .faulted → x.faultTime = some f →
      (atOrBefore now (f + 1000) = true → atOrBefore f now = true → refDue x now = f + 1000) ∧
      (¬ (atOrBefore now (f + 1000) = true ∧ atOrBefore f now = true) → refDue x now = now)) ∧
    (x.state = .uncal → refDue x now = now))

/-- A measured value is judged from the alarm state that the record holds: without hysteresis from UNKNOWN and FAULT (R114) and on
leaving NORMAL (R115), with it on leaving LOW (R116) and HIGH (R117); a sensor phase that ends with a measurement leaves the point
with that judgement of its value (that its M comes of one frequency, steady through the phase, is the model's choice: log 26). -/
def Obligations.JudgementFollowsBandAndHysteresis : Prop :=
  (∀ (s : State) (j : Job) (p : Slot) (r : PointRecord) (count : BitVec 22) (frequency : Nat), s.inReset = false →
    s.converter.state = .sensorPhase j → j.record = .point p → j.count = some count → s.points[p] = some r →
    16 ≤ windowCount j.excitation count.toNat frequency → windowCount j.excitation count.toNat frequency ≤ 262143 →
    ∃ (t : State) (n : PointRecord) (v : Half), exec (.sensorWindowEnd frequency) s = .next t ∧ t.points[p] = some n ∧
      n.lastValue = some v ∧ n.alarm = judge r v) ∧
  ∀ (r : PointRecord) (v : Half),
    (r.alarm = .unknown ∨ r.alarm = .fault ∨ r.alarm = .normal →
      (v.toNat < r.bandLow.toNat → judge r v = .low) ∧
      (r.bandLow.toNat ≤ v.toNat → r.bandHigh.toNat < v.toNat → judge r v = .high) ∧
      (r.bandLow.toNat ≤ v.toNat → v.toNat ≤ r.bandHigh.toNat → judge r v = .normal)) ∧
    (r.alarm = .low →
      (v.toNat < r.bandLow.toNat + r.hysteresis.toNat → judge r v = .low) ∧
      (r.bandLow.toNat + r.hysteresis.toNat ≤ v.toNat → r.bandHigh.toNat < v.toNat → judge r v = .high) ∧
      (r.bandLow.toNat + r.hysteresis.toNat ≤ v.toNat → v.toNat ≤ r.bandHigh.toNat → judge r v = .normal)) ∧
    (r.alarm = .high →
      (r.bandHigh.toNat < v.toNat + r.hysteresis.toNat → judge r v = .high) ∧
      (v.toNat + r.hysteresis.toNat ≤ r.bandHigh.toNat → v.toNat < r.bandLow.toNat → judge r v = .low) ∧
      (v.toNat + r.hysteresis.toNat ≤ r.bandHigh.toNat → r.bandLow.toNat ≤ v.toNat → judge r v = .normal)) ∧
    (r.bandFits → r.bandLow.toNat + r.hysteresis.toNat ≤ r.bandHigh.toNat ∧
      ¬ (v.toNat < r.bandLow.toNat ∧ r.bandHigh.toNat < v.toNat))

/-- The brightness of each pattern in its lit phase and in its dark phase (R155, Table 8-1), with the phases taken from the clock
value (R156). -/
def Obligations.PatternsHaveTheirBrightness : Prop :=
  ∀ t : Clock,
    brightness t .off = .off ∧ brightness t .dimSteady = .dim ∧ brightness t .fullSteady = .full ∧
    (t.toNat % 1000 ≤ 499 → brightness t .dimSlow = .dim ∧ brightness t .fullSlow = .full) ∧
    (500 ≤ t.toNat % 1000 → brightness t .dimSlow = .off ∧ brightness t .fullSlow = .off) ∧
    (t.toNat % 250 ≤ 124 →
      brightness t .fullFast = .full ∧ brightness t .dimFast = .dim ∧ brightness t .locate = .dim) ∧
    (125 ≤ t.toNat % 250 →
      brightness t .fullFast = .off ∧ brightness t .dimFast = .off ∧ brightness t .locate = .full) ∧
    brightness t .locate ≠ .off

/-- A row slot takes its eight cells from the records, the clock and the settings as they stand at its start (R153, R154), each cell
decided in the order of R160 with the patterns of Table 8-2 (R157); a dim cell's column goes off at the end of its on-time, and the
blanking gap turns the row and every column off (R153). Which row the first slot after a reset is, and that these rows act only in
their part of the slot, are the model's choices (log 9). -/
def Obligations.RowSlotsShowThePoints : Prop :=
  (∀ s : State, s.inReset = false →
    let row := if s.matrix.stage = .slotStart then s.matrix.row else s.matrix.row + 1
    ∃ t : State, exec .rowSlotStart s = .next t ∧ t = { s with matrix := t.matrix } ∧
      t.matrix.row = row ∧ t.matrix.stage = .lit ∧ t.matrix.enableCopy = s.settings.matrixEnable ∧
      t.matrix.lampTestCopy = s.settings.lampTest ∧ (∀ r : Fin 6, t.rowHigh r = (decide (r = row) && s.settings.matrixEnable)) ∧
      ∀ c : Column,
        (t.columnLow c = true ↔ t.matrix.onTimes[c] ≠ .off) ∧
        (s.settings.matrixEnable = false → t.matrix.onTimes[c] = .off) ∧
        (s.settings.matrixEnable = true → s.settings.lampTest = true → t.matrix.onTimes[c] = .full) ∧
        (s.settings.matrixEnable = true → s.settings.lampTest = false →
          ∀ p : Slot, p.val = 8 * row.val + c.val →
            (s.points[p] = none → t.matrix.onTimes[c] = .off) ∧
            (∀ r, s.points[p] = some r →
              (r.locate.isSome = true → t.matrix.onTimes[c] = brightness s.clock .locate) ∧
              (r.locate = none →
                (r.state = .dormant → t.matrix.onTimes[c] = .dim) ∧
                (r.state = .held → t.matrix.onTimes[c] = brightness s.clock .dimFast) ∧
                (r.state = .live → r.alarm = .unknown → t.matrix.onTimes[c] = brightness s.clock .dimSlow) ∧
                (r.state = .live → r.alarm = .normal → t.matrix.onTimes[c] = .full) ∧
                (r.state = .live → r.alarm = .low ∨ r.alarm = .high →
                  t.matrix.onTimes[c] = brightness s.clock .fullSlow) ∧
                (r.state = .live → r.alarm = .fault → t.matrix.onTimes[c] = brightness s.clock .fullFast))))) ∧
  (∀ (s : State) (c : Column), s.inReset = false → s.matrix.stage = .lit → s.matrix.onTimes[c] = .dim →
    exec (.cellOnTimeEnd c) s = .next { s with matrix := { s.matrix with columns := s.matrix.columns.set c false } }) ∧
  (∀ s : State, s.inReset = false → s.matrix.stage = .lit →
    exec .blankingGap s =
      .next { s with matrix := { s.matrix with stage := .blanking, columns := Vector.replicate 8 false } })

/-! ### The point commands -/

/-- DEFINE_POINT fills the named slot, or the lowest vacant one for 255, with the record of R9, and the tag map, the user count and
the named channel with it; the reply carries the slot (R8 to R10). When one of its checks fails, the first that fails gives the
reply, and nothing else changes (R7, R8). -/
def Obligations.DefinePointFillsAVacantSlot : Prop :=
  (∀ (s : State) (kind : FrameKind) (source slot : Byte) (p : Slot) (d : PointRecord) (x : RefRecord),
    s.holds kind source 0x10 (slot :: d.fields.bytes) → s.points[p] = none →
    (slot = slotByte p ∨ (slot = 255 ∧ ∀ q : Slot, q < p → s.points[q] ≠ none)) →
    s.refs[d.reference] = some x → d.fieldsInRange → d.bandFits → (∀ q : Slot, s.tagMap[q] ≠ some d.tag) →
    (x.owner = source ∨ x.isOpen = true ∨ source = 15) →
    (∀ c ∈ d.binding, s.channels[c].owner = source ∧ s.channels[c].mode = .own ∧
      (s.channels[c].binding = none ∨ s.channels[c].binding = some p)) →
    exec .definePoint s = .next { s with
      points := s.points.set p (some { d with
        state := .dormant, owner := source, lastValue := none, quality := .none, alarm := .unknown, faults := 0,
        resultTime := none, deadline := none, offer := none, locate := none })
      tagMap := s.tagMap.set p (some d.tag)
      refs := s.refs.set d.reference (some { x with users := x.users + 1 })
      channels := match d.binding with
        | some c => s.channels.set c { s.channels[c] with
            binding := some p, pendingDuty := some s.channels[c].levels.safe }
        | none => s.channels
      port := s.answered kind source 0x00 [slotByte p] }) ∧
  (∀ (s : State) (kind : FrameKind) (source slot code : Byte) (f : PointFields),
    s.holds kind source 0x10 (slot :: f.bytes) → firstFailing (definePointChecks s source slot f) code →
    exec .definePoint s = .next { s with port := s.answered kind source code [] })

/-- AMEND_POINT writes exactly the present fields, with their effects on the tag map, the notice set, the bindings and the user
counts (R11 to R15). When one of its checks fails, the first that fails gives the reply, and nothing else changes (R12). -/
def Obligations.AmendPointWritesThePresentFields : Prop :=
  (∀ (s : State) (kind : FrameKind) (source : Byte) (p : Slot) (mask : Half) (f : PointFields) (r n : PointRecord)
    (x y : RefRecord),
    s.holds kind source 0x11 (slotByte p :: (be16 mask ++ f.bytes)) → s.points[p] = some r → mask.toNat < 2048 →
    amends mask f r n → s.refs[r.reference] = some x → s.refs[n.reference] = some y → admitted source r.owner →
    (r.state = .live → mask.getLsbD 1 = false ∧ mask.getLsbD 2 = false ∧ mask.getLsbD 3 = false ∧
      mask.getLsbD 4 = false ∧ mask.getLsbD 5 = false) →
    n.fieldsInRange → n.bandFits → (mask.getLsbD 0 = true → ∀ q : Slot, q ≠ p → s.tagMap[q] ≠ some n.tag) →
    (mask.getLsbD 2 = true → y.owner = r.owner ∨ y.isOpen = true ∨ r.owner = 15) →
    (mask.getLsbD 10 = true → ∀ c ∈ n.binding, s.channels[c].owner = r.owner ∧ s.channels[c].mode = .own ∧
      (s.channels[c].binding = none ∨ s.channels[c].binding = some p)) →
    s.ownMode r.binding →
    exec .amendPoint s = .next { s with
      points := s.points.set p (some n)
      tagMap := if n.tag = r.tag then s.tagMap else s.tagMap.set p (some n.tag)
      noticePoints := if r.notify = true ∧ n.notify = false then s.noticePoints.set p false else s.noticePoints
      refs :=
        if n.reference = r.reference then s.refs
        else (s.refs.set r.reference (some { x with users := x.users - 1 })).set n.reference
          (some { y with users := y.users + 1 })
      channels :=
        if n.binding = r.binding then s.channels
        else
          let left := match r.binding with
            | some c => s.channels.set c { s.channels[c] with
                binding := none, pendingDuty := some s.channels[c].manualDuty }
            | none => s.channels
          match n.binding with
            | some c => left.set c { s.channels[c] with
                binding := some p, pendingDuty := some (levelFor r.alarm s.channels[c].levels) }
            | none => left
      port := s.answered kind source 0x00 [] }) ∧
  (∀ (s : State) (kind : FrameKind) (source code : Byte) (p : Slot) (mask : Half) (f : PointFields) (r : PointRecord),
    s.holds kind source 0x11 (slotByte p :: (be16 mask ++ f.bytes)) → s.points[p] = some r →
    firstFailing (amendPointChecks s source p r mask f) code →
    exec .amendPoint s = .next { s with port := s.answered kind source code [] })

/-- START_POINT makes a DORMANT or HELD point LIVE, queues it and, with its first live user, its reference (R16, R17, R98), at the due
time of Table 5-3 as the model reads it with R55 (log 23). -/
def Obligations.StartPointPutsAPointUnderMeasurement : Prop :=
  ∀ (s : State) (kind : FrameKind) (source : Byte) (p : Slot) (r : PointRecord) (x : RefRecord),
    s.holds kind source 0x12 [slotByte p] → s.points[p] = some r → s.refs[r.reference] = some x →
    admitted source r.owner → s.ownMode r.binding →
    (r.state ≠ .live → exec .startPoint s = .next { s with
      points := s.points.set p (some { r with
        state := .live, faults := 0, alarm := .unknown
        deadline := some (s.clock + r.interval.setWidth 32 * 10 * r.staleFactor.setWidth 32) })
      queue :=
        let withPoint := insertInto s.queue (.point p) s.clock s.clock
        if x.liveUsers = 0 ∧ s.isCurrent (.ref r.reference) = false
        then insertInto withPoint (.ref r.reference) (refDue x s.clock) s.clock else withPoint
      refs := s.refs.set r.reference (some { x with liveUsers := x.liveUsers + 1 })
      channels := s.channelsAsked r.binding Levels.safe
      port := s.answered kind source 0x00 [] }) ∧
    (r.state = .live → exec .startPoint s = .next { s with port := s.answered kind source 0x19 [] })

/-- STOP_POINT makes a LIVE point DORMANT, with its entry removed or its job aborted and its reference's live-user count lowered
(R18), makes a HELD point DORMANT (R19), and is refused for a DORMANT one. That the counters which an abort discards read 0 is the
model's (log 7). -/
def Obligations.StopPointTakesAPointOutOfMeasurement : Prop :=
  ∀ (s : State) (kind : FrameKind) (source : Byte) (p : Slot) (r : PointRecord) (x : RefRecord),
    s.holds kind source 0x13 [slotByte p] → s.points[p] = some r → s.refs[r.reference] = some x →
    admitted source r.owner → s.ownMode r.binding →
    (r.state = .live → exec .stopPoint s = .next { s with
      points := s.points.set p (some { r with state := .dormant, alarm := .unknown, deadline := none })
      converter := if s.isCurrent (.point p) then { state := .idle, measurement := 0, timeBase := 0 } else s.converter
      queue :=
        let withoutPoint := removeFrom s.queue (.point p)
        if x.liveUsers = 1 ∧ x.request = false then removeFrom withoutPoint (.ref r.reference) else withoutPoint
      refs := s.refs.set r.reference (some { x with liveUsers := x.liveUsers - 1 })
      channels := s.channelsAsked r.binding Levels.safe
      port := s.answered kind source 0x00 [] }) ∧
    (r.state = .held → exec .stopPoint s = .next { s with
      points := s.points.set p (some { r with state := .dormant, alarm := .unknown })
      port := s.answered kind source 0x00 [] }) ∧
    (r.state = .dormant → exec .stopPoint s = .next { s with port := s.answered kind source 0x19 [] })

/-- RETIRE_POINT empties a slot in any non-vacant state, with its tag, its place in the counts, its entry or job, its binding and its
notice (R20). That the counters which an abort discards read 0 is the model's (log 7). -/
def Obligations.RetirePointEmptiesItsSlot : Prop :=
  ∀ (s : State) (kind : FrameKind) (source : Byte) (p : Slot) (r : PointRecord) (x : RefRecord),
    s.holds kind source 0x14 [slotByte p] → s.points[p] = some r → s.refs[r.reference] = some x →
    admitted source r.owner → s.ownMode r.binding →
    exec .retirePoint s = .next { s with
      points := s.points.set p none
      tagMap := s.tagMap.set p none
      converter :=
        if r.state = .live ∧ s.isCurrent (.point p) = true then { state := .idle, measurement := 0, timeBase := 0 }
        else s.converter
      queue :=
        if r.state = .live then
          if x.liveUsers = 1 ∧ x.request = false then removeFrom (removeFrom s.queue (.point p)) (.ref r.reference)
          else removeFrom s.queue (.point p)
        else s.queue
      refs := s.refs.set r.reference (some { x with
        users := x.users - 1, liveUsers := if r.state = .live then x.liveUsers - 1 else x.liveUsers })
      channels := match r.binding with
        | some c => s.channels.set c { s.channels[c] with
            binding := none, pendingDuty := some s.channels[c].manualDuty }
        | none => s.channels
      noticePoints := s.noticePoints.set p false
      port := s.answered kind source 0x00 [] }

/-- READ_POINT changes nothing but the port, and its reply is laid out as Table 10-7, with the age of R23; an absent field is zeros
(R22, R189). The codes are those of Table 10-6; that the presence bits above bit 5 are 0 is the model's choice (log 25). -/
def Obligations.ReadPointReplyFollowsItsTable : Prop :=
  ([PointState.dormant, .live, .held].map pointStateByte = [0, 1, 2] ∧
    [Quality.none, .good, .clamped, .open, .short, .refFault, .stale].map qualityByte = [0, 1, 2, 3, 4, 5, 6] ∧
    [Alarm.unknown, .normal, .low, .high, .fault].map alarmByte = [0, 1, 2, 3, 4] ∧
    [false, true].map flagByte = [0, 1] ∧ (∀ i : SensorId, sensorByte i = BitVec.ofNat 8 i.val) ∧
    (∀ p : Slot, slotByte p = BitVec.ofNat 8 p.val) ∧ (∀ c : ChannelId, channelByte c = BitVec.ofNat 8 c.val) ∧
    (∀ r : RefId, refByte r = BitVec.ofNat 8 r.val)) ∧
  ∀ (s : State) (kind : FrameKind) (source : Byte) (p : Slot) (r : PointRecord),
    s.holds kind source 0x15 [slotByte p] → s.points[p] = some r →
    ∃ reply : List Byte, exec .readPoint s = .next { s with port := s.answered kind source 0x00 reply } ∧
      reply.length = 44 ∧ slice reply 1 1 = [slotByte p] ∧ slice reply 2 2 = [pointStateByte r.state] ∧
      slice reply 3 3 = [r.owner] ∧ slice reply 4 5 = be16 r.tag ∧ slice reply 6 6 = [sensorByte r.input] ∧
      slice reply 7 7 = [refByte r.reference] ∧ slice reply 8 9 = be16 r.interval ∧ slice reply 10 10 = [r.staleFactor] ∧
      slice reply 11 11 = [r.faultLimit] ∧ slice reply 12 13 = be16 r.bandLow ∧ slice reply 14 15 = be16 r.bandHigh ∧
      slice reply 16 17 = be16 r.hysteresis ∧ slice reply 18 18 = [flagByte r.notify] ∧
      (∃ presence : Byte, slice reply 19 19 = [presence] ∧ presence.toNat < 64 ∧
        presence.getLsbD 0 = r.binding.isSome ∧ presence.getLsbD 1 = r.lastValue.isSome ∧
        presence.getLsbD 2 = r.resultTime.isSome ∧ presence.getLsbD 3 = r.deadline.isSome ∧
        presence.getLsbD 4 = r.offer.isSome ∧ presence.getLsbD 5 = r.locate.isSome) ∧
      slice reply 20 20 = [(r.binding.map channelByte).getD 0] ∧ slice reply 21 22 = be16 (r.lastValue.getD 0) ∧
      slice reply 23 23 = [qualityByte r.quality] ∧ slice reply 24 24 = [alarmByte r.alarm] ∧
      slice reply 25 25 = [BitVec.ofNat 8 r.faults] ∧ slice reply 26 29 = be32 (r.resultTime.getD 0) ∧
      slice reply 30 33 = be32 (r.deadline.getD 0) ∧ slice reply 34 34 = [(r.offer.map Offer.recipient).getD 0] ∧
      slice reply 35 38 = be32 ((r.offer.map Offer.expiry).getD 0) ∧ slice reply 39 42 = be32 (r.locate.getD 0) ∧
      slice reply 43 44 = be16 (age r s.clock) ∧
      (r.resultTime = none → (age r s.clock).toNat = 65535) ∧
      (∀ t, r.resultTime = some t →
        (atOrBefore t s.clock = true → (age r s.clock).toNat = min 65535 ((s.clock - t).toNat / 10)) ∧
        (atOrBefore t s.clock = false → (age r s.clock).toNat = 65535))

/-- FIND_TAG answers the slot that the tag map pairs with the tag, and NOT_FOUND for a tag that the map does not hold, tag 0 among
them; it has no ownership check and changes nothing (R24). That the map pairs a tag with one slot is R4. -/
def Obligations.FindTagAnswersTheSlotOfATag : Prop :=
  ∀ (s : State) (kind : FrameKind) (source : Byte) (payload : List Byte), s.holds kind source 0x16 payload →
    (∀ (tag : Half) (p : Slot), payload = be16 tag → s.TagsAgree → s.tagMap[p] = some tag →
      exec .findTag s = .next { s with port := s.answered kind source 0x00 [slotByte p] }) ∧
    (∀ tag : Half, payload = be16 tag → (∀ p : Slot, s.tagMap[p] ≠ some tag) →
      exec .findTag s = .next { s with port := s.answered kind source 0x16 [] }) ∧
    (payload = be16 0 → s.TagsAgree → s.PointsSound →
      exec .findTag s = .next { s with port := s.answered kind source 0x16 [] }) ∧
    (payload.length ≠ 2 → exec .findTag s = .next { s with port := s.answered kind source 0x11 [] })

/-- LIST_POINTS answers the number and the slots, ascending, of the non-vacant slots that match both filters; a payload of another
length is BAD_LENGTH, a filter out of range BAD_VALUE (R25). -/
def Obligations.ListPointsAnswersTheMatchingSlots : Prop :=
  ∀ (s : State) (kind : FrameKind) (source : Byte) (payload : List Byte), s.holds kind source 0x17 payload →
    (∀ owner input : Byte, payload = [owner, input] → owner.toNat ≤ 15 → input.toNat ≤ 16 → ∃ slots : List Slot,
      exec .listPoints s = .next { s with
        port := s.answered kind source 0x00 (BitVec.ofNat 8 slots.length :: slots.map slotByte) } ∧
      slots.Pairwise (· < ·) ∧ slots.length ≤ 48 ∧
      (∀ p : Slot, p ∈ slots ↔ ∃ r, s.points[p] = some r ∧ (owner = 0 ∨ r.owner = owner) ∧
        (input = 16 ∨ sensorByte r.input = input))) ∧
    (∀ owner input : Byte, payload = [owner, input] → 15 < owner.toNat ∨ 16 < input.toNat →
      exec .listPoints s = .next { s with port := s.answered kind source 0x1B [] }) ∧
    (payload.length ≠ 2 → exec .listPoints s = .next { s with port := s.answered kind source 0x11 [] })

/-- LOCATE_POINT sets the locate to now + duration × 1,000 ms or cancels it, for any source (R158); locate expiry makes it absent
when its time has come, and not before (R159). That the row changes nothing when its condition does not hold, and that the presence
byte of the reply is 1 or 0, are the model's choices (logs 2 and 25). -/
def Obligations.LocatesAreSetCancelledAndExpire : Prop :=
  (∀ (s : State) (kind : FrameKind) (source seconds : Byte) (p : Slot) (r : PointRecord),
    s.holds kind source 0x60 [slotByte p, seconds] → s.points[p] = some r →
    (1 ≤ seconds.toNat → seconds.toNat ≤ 60 →
      let expiry := s.clock + seconds.setWidth 32 * 1000
      exec .locatePoint s = .next { s with
        points := s.points.set p (some { r with locate := some expiry })
        port := s.answered kind source 0x00 (1 :: be32 expiry) }) ∧
    (seconds = 0 → exec .locatePoint s = .next { s with
        points := s.points.set p (some { r with locate := none })
        port := s.answered kind source 0x00 [0, 0, 0, 0, 0] }) ∧
    (60 < seconds.toNat → exec .locatePoint s = .next { s with port := s.answered kind source 0x1B [] })) ∧
  (∀ (s : State) (p : Slot) (r : PointRecord), s.inReset = false → s.points[p] = some r →
    (∀ t, r.locate = some t → atOrBefore t s.clock = true →
      exec (.locateExpiry p) s = .next { s with points := s.points.set p (some { r with locate := none }) }) ∧
    (∀ t, r.locate = some t → atOrBefore t s.clock = false → exec (.locateExpiry p) s = .next s) ∧
    (r.locate = none → exec (.locateExpiry p) s = .next s))

/-! ### Handover -/

/-- OFFER_POINT sets or replaces the offer (R36), WITHDRAW_OFFER drops it (R37), and offer expiry drops it when its time has come,
with a notice if notify is on (R41). That the row changes nothing when its condition does not hold is the model's choice (log 2). -/
def Obligations.OffersAreMadeWithdrawnAndExpire : Prop :=
  (∀ (s : State) (kind : FrameKind) (source recipient hold : Byte) (p : Slot) (r : PointRecord),
    s.holds kind source 0x20 [slotByte p, recipient, hold] → s.points[p] = some r → admitted source r.owner →
    (1 ≤ recipient.toNat → recipient.toNat ≤ 15 → recipient ≠ r.owner → hold ≠ 0 →
      let expiry := s.clock + hold.setWidth 32 * 1000
      exec .offerPoint s = .next { s with
        points := s.points.set p (some { r with offer := some ⟨recipient, expiry⟩ })
        port := s.answered kind source 0x00 (be32 expiry) }) ∧
    (recipient = 0 ∨ 15 < recipient.toNat ∨ recipient = r.owner ∨ hold = 0 →
      exec .offerPoint s = .next { s with port := s.answered kind source 0x1B [] })) ∧
  (∀ (s : State) (kind : FrameKind) (source : Byte) (p : Slot) (r : PointRecord),
    s.holds kind source 0x21 [slotByte p] → s.points[p] = some r → admitted source r.owner →
    (r.offer.isSome = true → exec .withdrawOffer s = .next { s with
      points := s.points.set p (some { r with offer := none })
      port := s.answered kind source 0x00 [] }) ∧
    (r.offer = none → exec .withdrawOffer s = .next { s with port := s.answered kind source 0x20 [] })) ∧
  (∀ (s : State) (p : Slot) (r : PointRecord), s.inReset = false → s.points[p] = some r →
    (∀ o, r.offer = some o → atOrBefore o.expiry s.clock = true → exec (.offerExpiry p) s = .next { s with
      points := s.points.set p (some { r with offer := none })
      noticePoints := if r.notify = true then s.noticePoints.set p true else s.noticePoints }) ∧
    (∀ o, r.offer = some o → atOrBefore o.expiry s.clock = false → exec (.offerExpiry p) s = .next s) ∧
    (r.offer = none → exec (.offerExpiry p) s = .next s))

/-- TAKE_POINT moves the point and its bound channel to the controller that the offer names (R38, R39), ASSIGN_OWNER to the owner
that the service controller names (R43, R44), both under the open-reference test (R33). -/
def Obligations.TakeAndAssignMoveThePointWithItsChannel : Prop :=
  (∀ (s : State) (kind : FrameKind) (source : Byte) (p : Slot) (r : PointRecord) (x : RefRecord),
    s.holds kind source 0x22 [slotByte p] → s.points[p] = some r → s.refs[r.reference] = some x →
    (∀ o, r.offer = some o → o.recipient = source →
      (x.owner = source ∨ x.isOpen = true ∨ source = 15 → exec .takePoint s = .next { s with
        points := s.points.set p (some { r with owner := source, offer := none })
        channels := match r.binding with
          | some c => s.channels.set c { s.channels[c] with owner := source }
          | none => s.channels
        port := s.answered kind source 0x00 [] }) ∧
      (x.owner ≠ source → x.isOpen = false → source ≠ 15 →
        exec .takePoint s = .next { s with port := s.answered kind source 0x21 [] })) ∧
    ((∀ o, r.offer = some o → o.recipient ≠ source) →
      exec .takePoint s = .next { s with port := s.answered kind source 0x20 [] })) ∧
  (∀ (s : State) (kind : FrameKind) (owner : Byte) (p : Slot) (r : PointRecord) (x : RefRecord),
    s.holds kind 15 0x23 [slotByte p, owner] → s.points[p] = some r → s.refs[r.reference] = some x →
    (1 ≤ owner.toNat → owner.toNat ≤ 15 →
      (x.owner = owner ∨ x.isOpen = true ∨ owner = 15 → exec .assignOwner s = .next { s with
        points := s.points.set p (some { r with
          owner := owner
          offer := if r.offer.map Offer.recipient = some owner then none else r.offer })
        channels := match r.binding with
          | some c => s.channels.set c { s.channels[c] with owner := owner }
          | none => s.channels
        port := s.answered kind 15 0x00 [] }) ∧
      (x.owner ≠ owner → x.isOpen = false → owner ≠ 15 →
        exec .assignOwner s = .next { s with port := s.answered kind 15 0x21 [] })) ∧
    (owner = 0 ∨ 15 < owner.toNat → exec .assignOwner s = .next { s with port := s.answered kind 15 0x1B [] }))

/-! ### The reference commands -/

/-- DEFINE_REF fills an EMPTY record (R53), and AMEND_REF writes the present fields of a defined one, discarding the count of a VALID
or FAULTED reference whose span or excitation changes (R54, R55), unless it is CALIBRATING, in use or cannot be closed (R34). An
amended interval is stored, and the used one stays until the next successful calibration (R55); what it is before the first is the
model's (log 23). -/
def Obligations.ReferencesAreDefinedAndAmended : Prop :=
  (∀ (s : State) (kind : FrameKind) (source open' excitation : Byte) (span recal : Half) (r : RefId),
    s.holds kind source 0x30 ([refByte r, open', excitation] ++ be16 span ++ be16 recal) →
    (s.refs[r] = none → open'.toNat ≤ 1 → excitation.toNat ≤ 1 → 256 ≤ span.toNat → recal ≠ 0 →
      exec .defineRef s = .next { s with
        refs := s.refs.set r (some {
          state := .uncal, owner := source, isOpen := decide (open' = 1),
          excitation := if excitation = 1 then .alternating else .dc, span := span, recal := recal,
          usedRecal := recal, count := none, calTime := none, lastFault := none, faultTime := none, prior := none, request := false,
          users := 0, liveUsers := 0 })
        port := s.answered kind source 0x00 [] }) ∧
    (s.refs[r] = none → 1 < open'.toNat ∨ 1 < excitation.toNat ∨ span.toNat < 256 ∨ recal = 0 →
      exec .defineRef s = .next { s with port := s.answered kind source 0x1B [] }) ∧
    (s.refs[r] ≠ none → exec .defineRef s = .next { s with port := s.answered kind source 0x13 [] })) ∧
  (∀ (s : State) (kind : FrameKind) (source mask open' excitation : Byte) (span recal : Half) (r : RefId)
    (x : RefRecord),
    s.holds kind source 0x31 ([refByte r, mask, open', excitation] ++ be16 span ++ be16 recal) →
    s.refs[r] = some x → admitted source x.owner →
    let timing := mask.getLsbD 1 = true ∨ mask.getLsbD 2 = true ∨ mask.getLsbD 3 = true
    let inRange := mask.toNat < 16 ∧ (mask.getLsbD 0 = true → open'.toNat ≤ 1) ∧
      (mask.getLsbD 1 = true → excitation.toNat ≤ 1) ∧ (mask.getLsbD 2 = true → 256 ≤ span.toNat) ∧
      (mask.getLsbD 3 = true → recal ≠ 0)
    let closes := mask.getLsbD 0 = true ∧ open' = 0 ∧ x.isOpen = true
    let closable := ∀ (p : Slot) (q : PointRecord), s.points[p] = some q → q.reference = r →
      q.owner = x.owner ∨ q.owner = 15
    let newExcitation := if mask.getLsbD 1 = true then (if excitation = 1 then .alternating else .dc) else x.excitation
    let newSpan := if mask.getLsbD 2 = true then span else x.span
    let recalibrate := (newSpan ≠ x.span ∨ newExcitation ≠ x.excitation) ∧ (x.state = .valid ∨ x.state = .faulted)
    ((timing → x.state ≠ .calibrating) → inRange → (timing → x.liveUsers = 0) → (closes → closable) →
      exec .amendRef s = .next { s with
        refs := s.refs.set r (some { x with
          isOpen := if mask.getLsbD 0 = true then decide (open' = 1) else x.isOpen
          excitation := newExcitation
          span := newSpan
          recal := if mask.getLsbD 3 = true then recal else x.recal
          state := if recalibrate then .uncal else x.state
          count := if recalibrate then none else x.count })
        port := s.answered kind source 0x00 [] }) ∧
    (timing → x.state = .calibrating → exec .amendRef s = .next { s with port := s.answered kind source 0x19 [] }) ∧
    ((timing → x.state ≠ .calibrating) → ¬ inRange →
      exec .amendRef s = .next { s with port := s.answered kind source 0x1B [] }) ∧
    ((timing → x.state ≠ .calibrating) → inRange → (timing ∧ 0 < x.liveUsers) ∨ (closes ∧ ¬ closable) →
      exec .amendRef s = .next { s with port := s.answered kind source 0x1A [] }))

/-- CALIBRATE_REF records the request and makes the reference's entry due (R56); RETIRE_REF empties a reference without users, with
job, its entry and its notice (R63). That the counters which an abort discards read 0 is the model's (log 7), and so is that
CALIBRATE_REF compares the due time of a marked entry as that of an unmarked one (log 24). -/
def Obligations.ReferencesAreCalibratedOnRequestAndRetired : Prop :=
  (∀ (s : State) (kind : FrameKind) (source : Byte) (r : RefId) (x : RefRecord),
    s.holds kind source 0x32 [refByte r] → s.refs[r] = some x → admitted source x.owner →
    (x.state ≠ .calibrating → exec .calibrateRef s = .next { s with
      refs := s.refs.set r (some { x with request := true })
      queue := match entryIn s.queue (.ref r) with
        | none => placeEntry ⟨.ref r, s.clock, true⟩ s.queue
        | some e => if isAfter e.due s.clock then placeEntry ⟨.ref r, s.clock, true⟩ (removeFrom s.queue (.ref r)) else s.queue
      port := s.answered kind source 0x01 [] }) ∧
    (x.state = .calibrating → exec .calibrateRef s = .next { s with port := s.answered kind source 0x1F [] })) ∧
  (∀ (s : State) (kind : FrameKind) (source : Byte) (r : RefId) (x : RefRecord),
    s.holds kind source 0x34 [refByte r] → s.refs[r] = some x → admitted source x.owner →
    (x.users = 0 → exec .retireRef s = .next { s with
      converter := if s.isCurrent (.ref r) then { state := .idle, measurement := 0, timeBase := 0 } else s.converter
      queue := removeFrom s.queue (.ref r)
      noticeRefs := s.noticeRefs.set r false
      refs := s.refs.set r none
      port := s.answered kind source 0x00 [] }) ∧
    (0 < x.users → exec .retireRef s = .next { s with port := s.answered kind source 0x1A [] }))

/-- READ_REF changes nothing but the port, and its reply is laid out as Table 10-8; an absent field is zeros (R62, R189). The
codes are those of Table 10-6; that the presence bits above bit 4 are 0 is the model's choice (log 25). -/
def Obligations.ReadRefReplyFollowsItsTable : Prop :=
  ([RefState.uncal, .calibrating, .valid, .faulted].map refStateByte = [0, 1, 2, 3] ∧
    [RefFault.refOpen, .refShort].map refFaultByte = [0, 1] ∧
    [Excitation.dc, .alternating].map excitationByte = [0, 1] ∧ [false, true].map flagByte = [0, 1] ∧
    (∀ r : RefId, refByte r = BitVec.ofNat 8 r.val)) ∧
  ∀ (s : State) (kind : FrameKind) (source : Byte) (r : RefId) (x : RefRecord),
    s.holds kind source 0x33 [refByte r] → s.refs[r] = some x →
    let due := (entryIn s.queue (.ref r)).map QueueEntry.due
    ∃ reply : List Byte, exec .readRef s = .next { s with port := s.answered kind source 0x00 reply } ∧
      reply.length = 31 ∧ slice reply 1 1 = [refByte r] ∧ slice reply 2 2 = [refStateByte x.state] ∧
      slice reply 3 3 = [x.owner] ∧ slice reply 4 4 = [flagByte x.isOpen] ∧
      slice reply 5 5 = [excitationByte x.excitation] ∧ slice reply 6 7 = be16 x.span ∧ slice reply 8 9 = be16 x.recal ∧
      (∃ presence : Byte, slice reply 10 10 = [presence] ∧ presence.toNat < 32 ∧
        presence.getLsbD 0 = x.count.isSome ∧ presence.getLsbD 1 = x.calTime.isSome ∧
        presence.getLsbD 2 = x.lastFault.isSome ∧ presence.getLsbD 3 = x.prior.isSome ∧
        presence.getLsbD 4 = due.isSome) ∧
      slice reply 11 14 = be32 ((x.count.getD 0).setWidth 32) ∧ slice reply 15 18 = be32 (x.calTime.getD 0) ∧
      slice reply 19 19 = [(x.lastFault.map refFaultByte).getD 0] ∧ slice reply 20 23 = be32 (x.faultTime.getD 0) ∧
      slice reply 24 24 = [(x.prior.map refStateByte).getD 0] ∧ slice reply 25 25 = [flagByte x.request] ∧
      slice reply 26 26 = [BitVec.ofNat 8 x.users] ∧ slice reply 27 27 = [BitVec.ofNat 8 x.liveUsers] ∧
      slice reply 28 31 = be32 (due.getD 0)

/-! ### The scheduler and the converter -/

/-- MEASURE_NOW brings a queued LIVE point forward unless its entry is marked (R105, R106); MEASURE_OWNED does so for every queued
point of the source, one after another in slot order, and answers their number (R107). Each unmarked entry is taken out and placed
again, due now and marked, by the order of R94; a marked one keeps its place. -/
def Obligations.MeasurementsAreBroughtForward : Prop :=
  let forward (now : Clock) (q : List QueueEntry) (p : Slot) : List QueueEntry :=
    match entryIn q (.point p) with
    | some e => if e.mark = true then q else placeEntry ⟨.point p, now, true⟩ (removeFrom q (.point p))
    | none => q
  (∀ (s : State) (kind : FrameKind) (source : Byte) (p : Slot) (r : PointRecord),
    s.holds kind source 0x40 [slotByte p] → s.points[p] = some r → admitted source r.owner →
    (r.state = .live → s.isCurrent (.point p) = false → exec .measureNow s = .next { s with
      queue := forward s.clock s.queue p
      port := s.answered kind source 0x00 [] }) ∧
    (r.state ≠ .live → exec .measureNow s = .next { s with port := s.answered kind source 0x19 [] }) ∧
    (r.state = .live → s.isCurrent (.point p) = true →
      exec .measureNow s = .next { s with port := s.answered kind source 0x1F [] })) ∧
  (∀ (s : State) (kind : FrameKind) (source : Byte), s.holds kind source 0x41 [] →
    ∃ slots : List Slot, slots.Pairwise (· < ·) ∧
      (∀ p : Slot, p ∈ slots ↔ (∃ e, entryIn s.queue (.point p) = some e) ∧
        (source = 15 ∨ ∃ r, s.points[p] = some r ∧ r.owner = source)) ∧
      exec .measureOwned s = .next { s with
        queue := slots.foldl (forward s.clock) s.queue
        port := s.answered kind source 0x00 [BitVec.ofNat 8 slots.length] } ∧
      (∀ p ∈ slots, ∀ e, entryIn s.queue (.point p) = some e →
        entryIn (slots.foldl (forward s.clock) s.queue) (.point p) =
          some (if e.mark = true then e else ⟨.point p, s.clock, true⟩)) ∧
      (∀ p : Slot, p ∉ slots →
        entryIn (slots.foldl (forward s.clock) s.queue) (.point p) = entryIn s.queue (.point p)) ∧
      (∀ r : RefId, entryIn (slots.foldl (forward s.clock) s.queue) (.ref r) = entryIn s.queue (.ref r)))

/-- Dispatch with the converter IDLE and the head marked: a reference entry, and a point on a VALID reference, become the current job
(R101); a point on an UNCAL reference stays while its reference is pulled ahead (R102); a point on a FAULTED reference receives
REF_FAULT (R103); with the converter busy, the queue empty or the head unmarked nothing is dispatched (R100). -/
def Obligations.DispatchActsOnTheMarkedHead : Prop :=
  ∀ (s : State), s.inReset = false →
    (∀ (e : QueueEntry) (rest : List QueueEntry), s.converter.state = .idle → s.queue = e :: rest → e.mark = true →
      (∀ r x, e.record = .ref r → s.refs[r] = some x → exec .dispatch s = .next { s with
        queue := removeFrom s.queue (.ref r)
        refs := s.refs.set r (some { x with state := .calibrating, prior := some x.state })
        converter := { s.converter with state := .supplyCheck {
          record := .ref r, input := .reference r, excitation := x.excitation, span := x.span, count := none,
          start := s.clock, due := e.due } } }) ∧
      (∀ p q x, e.record = .point p → s.points[p] = some q → s.refs[q.reference] = some x →
        (x.state = .valid → exec .dispatch s = .next { s with
          queue := removeFrom s.queue (.point p)
          converter := { s.converter with state := .supplyCheck {
            record := .point p, input := .sensor q.input, excitation := x.excitation, span := x.span, count := x.count,
            start := s.clock, due := e.due } } }) ∧
        (x.state = .uncal → exec .dispatch s = .next { s with
          queue := removeFrom s.queue (.ref q.reference)
          refs := s.refs.set q.reference (some { x with state := .calibrating, prior := some .uncal })
          converter := { s.converter with state := .supplyCheck {
            record := .ref q.reference, input := .reference q.reference, excitation := x.excitation, span := x.span,
            count := none, start := s.clock, due := s.clock } } }) ∧
        (x.state = .faulted → s.ownMode q.binding → exec .dispatch s =
          .next (State.afterFault { s with queue := removeFrom s.queue (.point p) } p q x s.clock .refFault)))) ∧
    (s.converter.state ≠ .idle ∨ s.queue = [] ∨ (∃ e rest, s.queue = e :: rest ∧ e.mark = false) →
      exec .dispatch s = .next s)

/-- At the latch the check passes exactly when VDDA is at or above the floor of the setting (R68, Table 4-2): a reference job enters
REFERENCE_PHASE and a point job SENSOR_PHASE, with the counters loaded (R69, R75, R79); or the job is returned unrun with its old due
time and its mark set, SUPPLY_LOW is set and the hold begins (R70, R60, R99). The hold ends in IDLE (R71). -/
def Obligations.SupplyCheckPassesOrReturnsTheJob : Prop :=
  (∀ (s : State) (vdda : Nat) (j : Job), s.inReset = false → s.converter.state = .supplyCheck j →
    (2600 + 100 * s.settings.floor.toNat ≤ vdda →
      (∀ r, j.record = .ref r → exec (.supplyCheckLatch vdda) s = .next { s with converter :=
        { state := .referencePhase j, measurement := 0 - j.span.setWidth 18, timeBase := 0 } }) ∧
      (∀ p t, j.record = .point p → j.count = some t → exec (.supplyCheckLatch vdda) s = .next { s with converter :=
        { state := .sensorPhase j, measurement := 0, timeBase := 0 - t } })) ∧
    (vdda < 2600 + 100 * s.settings.floor.toNat →
      (∀ r x prior, j.record = .ref r → s.refs[r] = some x → x.prior = some prior →
        exec (.supplyCheckLatch vdda) s = .next { s with
          converter := { s.converter with state := .hold }
          refs := s.refs.set r (some { x with state := prior, prior := none })
          queue := if 0 < x.liveUsers ∨ x.request = true then returnInto s.queue (.ref r) j.due else s.queue
          causes := { s.causes with supplyLow := true } }) ∧
      (∀ p, j.record = .point p → exec (.supplyCheckLatch vdda) s = .next { s with
          converter := { s.converter with state := .hold }
          queue := returnInto s.queue (.point p) j.due
          causes := { s.causes with supplyLow := true } }))) ∧
  (∀ (s : State), s.inReset = false → s.converter.state = .hold →
    exec .holdExpiry s = .next { s with converter := { s.converter with state := .idle } })

/-- In a reference phase an oscillator of this frequency, in microhertz, takes T time base counts for N counted cycles, of one
oscillator cycle under DC and of two, forward and then reverse, under ALTERNATING (R73, R74; 400 kHz gives the T of Table 4-3). T of 64
or more is delivered as the count (R76, R58), T below 64 as REF_SHORT (R76, R59), and a T that the time base cannot hold, or an
oscillator that is stopped, as REF_OPEN (R77, R59), with the record, the notice set, the queue and the converter changed in the one
action (R78). No count is kept (R77). That the counters of the IDLE converter read 0, that the frequency holds through a phase, and
that the event which does not come first changes nothing, are the model's choices (logs 7, 26 and 2). -/
def Obligations.ReferencePhaseDeliversACountOrAFault : Prop :=
  ∀ (s : State) (j : Job) (r : RefId) (x : RefRecord) (frequency : Nat), s.inReset = false →
    s.converter.state = .referencePhase j → j.record = .ref r → s.refs[r] = some x →
    let perCount := if j.excitation = .alternating then 2 else 1
    let t := perCount * j.span.toNat * 4000000000000 / frequency
    let idle : Converter := { state := .idle, measurement := 0, timeBase := 0 }
    (s.converter.oscillator = some j.input ∧ s.converter.excitation = some j.excitation ∧
      idle.oscillator = none ∧ idle.excitation = none ∧
      ∀ cycle : Nat, s.converter.currentForward cycle = some (decide (j.excitation = .dc ∨ cycle % 2 = 0))) ∧
    (frequency = 400000000000 → t = 10 * perCount * j.span.toNat) ∧
    (0 < frequency → t ≤ 4194303 → exec (.referenceTimeBaseLimit frequency) s = .next s ∧
      (64 ≤ t → exec (.referenceCountComplete frequency) s = .next { s with
        converter := idle
        refs := s.refs.set r (some { x with
          state := .valid, usedRecal := x.recal, count := some (BitVec.ofNat 22 t), calTime := some s.clock, lastFault := none,
          faultTime := none, prior := none, request := false })
        noticeRefs := if x.prior = some .faulted then s.noticeRefs.set r true else s.noticeRefs
        queue := if 0 < x.liveUsers then insertInto s.queue (.ref r) (s.clock + x.recal.setWidth 32 * 1000) s.clock
          else s.queue }) ∧
      (t < 64 → exec (.referenceCountComplete frequency) s = .next { s with
        converter := idle
        refs := s.refs.set r (some { x with
          state := .faulted, count := none, lastFault := some .refShort, faultTime := some s.clock, prior := none,
          request := false })
        noticeRefs := s.noticeRefs.set r true
        queue := if 0 < x.liveUsers then insertInto s.queue (.ref r) (s.clock + 1000) s.clock else s.queue })) ∧
    (frequency = 0 ∨ 4194303 < t → exec (.referenceCountComplete frequency) s = .next s ∧
      exec (.referenceTimeBaseLimit frequency) s = .next { s with
        converter := idle
        refs := s.refs.set r (some { x with
          state := .faulted, count := none, lastFault := some .refOpen, faultTime := some s.clock, prior := none,
          request := false })
        noticeRefs := s.noticeRefs.set r true
        queue := if 0 < x.liveUsers then insertInto s.queue (.ref r) (s.clock + 1000) s.clock else s.queue })

/-- In a sensor phase of T counts an oscillator of this frequency, in microhertz, yields M counted cycles, a cycle or a reversal pair
in progress not counted (R73, R74). M of 16 or more within the counter is delivered as a measurement, with the value
floor(N × 16,384 / M), CLAMPED to 65,535 exactly when M is at most N / 4 (R81, R82), evaluated as R113, R121 and R122 say; M below 16
as OPEN (R81); M above 262,143 as SHORT (R80); the record, the queue, the notice set, the channel and the converter change in the one
action (R83). That the counters of the IDLE converter read 0, that the frequency holds through a phase, and that the event which does
not come first changes nothing, are the model's choices (logs 7, 26 and 2). -/
def Obligations.SensorPhaseDeliversAMeasurementOrAFault : Prop :=
  ∀ (s : State) (j : Job) (p : Slot) (r : PointRecord) (x : RefRecord) (count : BitVec 22) (frequency : Nat),
    s.inReset = false → s.converter.state = .sensorPhase j → j.record = .point p → j.count = some count →
    s.points[p] = some r → s.refs[r.reference] = some x → s.ownMode r.binding →
    let perCount := if j.excitation = .alternating then 2 else 1
    let m := frequency * count.toNat / 4000000000000 / perCount
    let idle : Converter := { state := .idle, measurement := 0, timeBase := 0 }
    (s.converter.oscillator = some j.input ∧ s.converter.excitation = some j.excitation ∧
      ∀ cycle : Nat, s.converter.currentForward cycle = some (decide (j.excitation = .dc ∨ cycle % 2 = 0))) ∧
    (m ≤ 262143 → exec (.sensorCountOverflow frequency) s = .next s ∧
      (16 ≤ m →
        let quotient := j.span.toNat * 16384 / m
        (65535 < quotient ↔ 4 * m ≤ j.span.toNat) ∧
        ∃ (v : Half) (q : Quality), v.toNat = min 65535 quotient ∧ q = (if 65535 < quotient then .clamped else .good) ∧
          exec (.sensorWindowEnd frequency) s = .next { s with
            converter := idle
            points := s.points.set p (some { r with
              lastValue := some v
              quality := q
              resultTime := some s.clock
              deadline := some (s.clock + r.interval.setWidth 32 * 10 * r.staleFactor.setWidth 32)
              faults := 0
              alarm := judge r v })
            queue := insertInto s.queue (.point p) (j.start + r.interval.setWidth 32 * 10) s.clock
            noticePoints := if judge r v ≠ r.alarm ∧ r.notify = true then s.noticePoints.set p true else s.noticePoints
            channels := if judge r v ≠ r.alarm then s.channelsAsked r.binding (levelFor (judge r v)) else s.channels }) ∧
      (m < 16 → exec (.sensorWindowEnd frequency) s =
        .next (State.afterFault { s with converter := idle } p r x j.start .open))) ∧
    (262143 < m → exec (.sensorWindowEnd frequency) s = .next s ∧
      exec (.sensorCountOverflow frequency) s =
        .next (State.afterFault { s with converter := idle } p r x j.start .short))

/-- Freshness deadline expiry of a LIVE point: STALE and FAULT with the notice and SAFE requests when it was not at FAULT, and the
deadline absent in both cases (R125); not before the deadline, and not without one, where the row changes nothing by the model's
choice (log 2). -/
def Obligations.FreshnessExpiryMakesAPointStale : Prop :=
  ∀ (s : State) (p : Slot) (r : PointRecord), s.inReset = false → s.points[p] = some r → s.ownMode r.binding →
    (∀ t, r.state = .live → r.deadline = some t → atOrBefore t s.clock = true →
      (r.alarm ≠ .fault → exec (.freshnessDeadlineExpiry p) s = .next { s with
        points := s.points.set p (some { r with quality := .stale, alarm := .fault, deadline := none })
        noticePoints := if r.notify = true then s.noticePoints.set p true else s.noticePoints
        channels := s.channelsAsked r.binding Levels.safe }) ∧
      (r.alarm = .fault → exec (.freshnessDeadlineExpiry p) s = .next { s with
        points := s.points.set p (some { r with deadline := none }) })) ∧
    (r.state ≠ .live ∨ r.deadline = none ∨ (∃ t, r.deadline = some t ∧ atOrBefore t s.clock = false) →
      exec (.freshnessDeadlineExpiry p) s = .next s)

/-! ### Drive channels -/

/-- CONFIGURE_DRIVE sets up a disabled channel and gives an unowned one to the source (R138, R139); RELEASE_DRIVE returns a disabled
unbound channel to owner 0 (R149). -/
def Obligations.ChannelsAreConfiguredAndReleased : Prop :=
  (∀ (s : State) (kind : FrameKind) (source : Byte) (c : ChannelId) (polarity mode : Byte) (period manual : Half)
    (l : Levels),
    s.holds kind source 0x50 ([channelByte c, polarity, mode] ++ be16 period ++ l.bytes ++ be16 manual) →
    (s.channels[c].owner = 0 ∨ admitted source s.channels[c].owner) →
    (s.channels[c].enabled = false → polarity.toNat ≤ 1 → mode.toNat ≤ 1 → 2 ≤ period.toNat →
      (mode = 1 → c ≠ 0 ∧ s.channels[c].binding = none) →
      exec .configureDrive s = .next { s with
        channels := s.channels.set c { s.channels[c] with
          owner := if s.channels[c].owner = 0 then source else s.channels[c].owner
          polarity := if polarity = 1 then .activeLow else .activeHigh
          mode := if mode = 1 then .follow else .own
          activePeriod := period
          pendingDuty := none
          levels := l
          manualDuty := manual }
        port := s.answered kind source 0x00 [] }) ∧
    (s.channels[c].enabled = true → exec .configureDrive s = .next { s with port := s.answered kind source 0x1E [] }) ∧
    (s.channels[c].enabled = false → 1 < polarity.toNat ∨ 1 < mode.toNat ∨ period.toNat < 2 →
      exec .configureDrive s = .next { s with port := s.answered kind source 0x1B [] }) ∧
    (s.channels[c].enabled = false → polarity.toNat ≤ 1 → 2 ≤ period.toNat → mode = 1 →
      c = 0 ∨ s.channels[c].binding ≠ none →
      exec .configureDrive s = .next { s with port := s.answered kind source 0x1D [] })) ∧
  (∀ (s : State) (kind : FrameKind) (source : Byte) (c : ChannelId),
    s.holds kind source 0x56 [channelByte c] → admitted source s.channels[c].owner →
    (s.channels[c].enabled = false → s.channels[c].binding = none → exec .releaseDrive s = .next { s with
      channels := s.channels.set c { s.channels[c] with owner := 0 }
      port := s.answered kind source 0x00 [] }) ∧
    (s.channels[c].enabled = true → exec .releaseDrive s = .next { s with port := s.answered kind source 0x1E [] }) ∧
    (s.channels[c].enabled = false → s.channels[c].binding ≠ none →
      exec .releaseDrive s = .next { s with port := s.answered kind source 0x1A [] }))

/-- SET_DRIVE_LEVELS stores the levels and asks a bound channel for its called-for level when that has changed (R140);
SET_MANUAL_DUTY stores the duty and asks an unbound channel in OWN mode when it has changed (R141). -/
def Obligations.LevelsAndManualDutyAreSet : Prop :=
  (∀ (s : State) (kind : FrameKind) (source : Byte) (c : ChannelId) (l : Levels),
    s.holds kind source 0x51 (channelByte c :: l.bytes) → admitted source s.channels[c].owner →
    (∀ p r, s.channels[c].binding = some p → s.points[p] = some r → s.channels[c].mode = .own →
      exec .setDriveLevels s = .next { s with
        channels := s.channels.set c { s.channels[c] with
          levels := l
          pendingDuty :=
            if levelFor r.alarm l = levelFor r.alarm s.channels[c].levels then s.channels[c].pendingDuty
            else some (levelFor r.alarm l) }
        port := s.answered kind source 0x00 [] }) ∧
    (s.channels[c].binding = none → exec .setDriveLevels s = .next { s with
        channels := s.channels.set c { s.channels[c] with levels := l }
        port := s.answered kind source 0x00 [] })) ∧
  (∀ (s : State) (kind : FrameKind) (source : Byte) (c : ChannelId) (duty : Half),
    s.holds kind source 0x53 (channelByte c :: be16 duty) → admitted source s.channels[c].owner →
    exec .setManualDuty s = .next { s with
      channels := s.channels.set c { s.channels[c] with
        manualDuty := duty
        pendingDuty :=
          if s.channels[c].binding = none ∧ s.channels[c].mode = .own ∧ duty ≠ s.channels[c].manualDuty then some duty
          else s.channels[c].pendingDuty }
      port := s.answered kind source 0x00 [] })

/-- SET_DRIVE_PERIOD sets the pending period of an enabled channel and the configured period of a disabled one (R142); ENABLE_DRIVE
starts a disabled channel at the duty its source calls for (R143, R136); DISABLE_DRIVE stops a channel (R144). That ENABLE_DRIVE
clears a pending period too, which a disabled channel does not hold, is taken from R137 (log 22). -/
def Obligations.PeriodsAreSetAndChannelsEnabledAndDisabled : Prop :=
  (∀ (s : State) (kind : FrameKind) (source : Byte) (c : ChannelId) (period : Half),
    s.holds kind source 0x52 (channelByte c :: be16 period) → admitted source s.channels[c].owner →
    (2 ≤ period.toNat → s.channels[c].enabled = true → exec .setDrivePeriod s = .next { s with
      channels := s.channels.set c { s.channels[c] with pendingPeriod := some period }
      port := s.answered kind source 0x00 [] }) ∧
    (2 ≤ period.toNat → s.channels[c].enabled = false → exec .setDrivePeriod s = .next { s with
      channels := s.channels.set c { s.channels[c] with activePeriod := period }
      port := s.answered kind source 0x00 [] }) ∧
    (period.toNat < 2 → exec .setDrivePeriod s = .next { s with port := s.answered kind source 0x1B [] })) ∧
  (∀ (s : State) (kind : FrameKind) (source : Byte) (c : ChannelId),
    s.holds kind source 0x54 [channelByte c] → admitted source s.channels[c].owner →
    (∀ duty : Half, s.channels[c].enabled = false →
      (s.channels[c].mode = .follow → duty = if s.channels[(0 : ChannelId)].enabled then
        s.channels[(0 : ChannelId)].activeDuty else 0) →
      (s.channels[c].mode = .own → s.channels[c].binding = none → duty = s.channels[c].manualDuty) →
      (s.channels[c].mode = .own → ∀ p, s.channels[c].binding = some p →
        ∃ r, s.points[p] = some r ∧ duty = levelFor r.alarm s.channels[c].levels) →
      exec .enableDrive s = .next { s with
        channels := s.channels.set c { s.channels[c] with
          enabled := true, counter := 0, activeDuty := duty, pendingPeriod := none, pendingDuty := none }
        port := s.answered kind source 0x00 [] }) ∧
    (s.channels[c].enabled = true → exec .enableDrive s = .next { s with port := s.answered kind source 0x1E [] })) ∧
  (∀ (s : State) (kind : FrameKind) (source : Byte) (c : ChannelId),
    s.holds kind source 0x55 [channelByte c] → admitted source s.channels[c].owner →
    exec .disableDrive s = .next { s with
      channels := s.channels.set c { s.channels[c] with enabled := false, pendingPeriod := none, pendingDuty := none }
      port := s.answered kind source 0x00 [] })

/-- READ_DRIVE changes nothing but the port, and its reply is laid out as Table 10-9, with the called-for duty of R136; an absent
field is zeros (R150, R189). The codes are those of Table 10-6; that the presence bits above bit 2 are 0 is the model's choice
(log 25). -/
def Obligations.ReadDriveReplyFollowsItsTable : Prop :=
  ([Polarity.activeHigh, .activeLow].map polarityByte = [0, 1] ∧ [DriveMode.own, .follow].map modeByte = [0, 1] ∧
    [false, true].map flagByte = [0, 1] ∧ (∀ c : ChannelId, channelByte c = BitVec.ofNat 8 c.val) ∧
    (∀ p : Slot, slotByte p = BitVec.ofNat 8 p.val)) ∧
  ∀ (s : State) (kind : FrameKind) (source : Byte) (c : ChannelId), s.holds kind source 0x57 [channelByte c] →
    let x := s.channels[c]
    ∃ (reply : List Byte) (called : Half),
      exec .readDrive s = .next { s with port := s.answered kind source 0x00 reply } ∧
      reply.length = 27 ∧ slice reply 1 1 = [channelByte c] ∧ slice reply 2 2 = [x.owner] ∧
      slice reply 3 3 = [flagByte x.enabled] ∧ slice reply 4 4 = [polarityByte x.polarity] ∧
      slice reply 5 5 = [modeByte x.mode] ∧ slice reply 6 7 = be16 x.activePeriod ∧ slice reply 8 9 = be16 x.activeDuty ∧
      (∃ presence : Byte, slice reply 10 10 = [presence] ∧ presence.toNat < 8 ∧
        presence.getLsbD 0 = x.pendingPeriod.isSome ∧ presence.getLsbD 1 = x.pendingDuty.isSome ∧
        presence.getLsbD 2 = x.binding.isSome) ∧
      slice reply 11 12 = be16 (x.pendingPeriod.getD 0) ∧ slice reply 13 14 = be16 (x.pendingDuty.getD 0) ∧
      slice reply 15 22 = x.levels.bytes ∧ slice reply 23 24 = be16 x.manualDuty ∧
      slice reply 25 25 = [(x.binding.map slotByte).getD 0] ∧ slice reply 26 27 = be16 called ∧
      (x.mode = .follow → called = if s.channels[(0 : ChannelId)].enabled then s.channels[(0 : ChannelId)].activeDuty else 0) ∧
      (x.mode = .own → x.binding = none → called = x.manualDuty) ∧
      (∀ p r, x.mode = .own → x.binding = some p → s.points[p] = some r →
        (r.alarm = .normal → called = x.levels.normal) ∧ (r.alarm = .low → called = x.levels.low) ∧
        (r.alarm = .high → called = x.levels.high) ∧ (r.alarm = .unknown ∨ r.alarm = .fault → called = x.levels.safe))

/-- At its period boundary an enabled channel applies its pending period, and its pending duty in OWN mode or D0's duty in FOLLOW
mode (R134, R135); a disabled channel has no boundary, so that the row changes nothing by the model's choice (log 2); at the duty
count the output becomes inactive (R133), the counter kept at its last event by the model's choice (log 8). -/
def Obligations.BoundariesApplyWhatIsPending : Prop :=
  (∀ (s : State) (c : ChannelId), s.inReset = false →
    (s.channels[c].enabled = true → s.channels[c].mode = .own → exec (.periodBoundary c) s = .next { s with
      channels := s.channels.set c { s.channels[c] with
        activePeriod := s.channels[c].pendingPeriod.getD s.channels[c].activePeriod
        activeDuty := s.channels[c].pendingDuty.getD s.channels[c].activeDuty
        pendingPeriod := none, pendingDuty := none, counter := 0 } }) ∧
    (s.channels[c].enabled = true → s.channels[c].mode = .follow → exec (.periodBoundary c) s = .next { s with
      channels := s.channels.set c { s.channels[c] with
        activePeriod := s.channels[c].pendingPeriod.getD s.channels[c].activePeriod
        activeDuty := if s.channels[(0 : ChannelId)].enabled then s.channels[(0 : ChannelId)].activeDuty else 0
        pendingPeriod := none, counter := 0 } }) ∧
    (s.channels[c].enabled = false → exec (.periodBoundary c) s = .next s)) ∧
  (∀ (s : State) (c : ChannelId), s.inReset = false → s.channels[c].enabled = true →
    s.channels[c].counter.toNat < s.channels[c].activeDuty.toNat →
    s.channels[c].activeDuty.toNat < s.channels[c].activePeriod.toNat →
    s.channels[c].isActive = true ∧ ∃ t : State, exec (.driveDutyCount c) s = .next t ∧
      t = { s with channels := s.channels.set c { s.channels[c] with counter := s.channels[c].activeDuty } } ∧
      t.channels[c].isActive = false ∧
      (s.channels[c].polarity = .activeHigh → s.channels[c].pinHigh = true ∧ t.channels[c].pinHigh = false) ∧
      (s.channels[c].polarity = .activeLow → s.channels[c].pinHigh = false ∧ t.channels[c].pinHigh = true))

/-! ### Notices, settings, the part as a whole -/

/-- READ_NOTICES answers the members that the source may read, slots ascending and then references in order, and removes exactly
them (R165). -/
def Obligations.ReadNoticesReturnsAndRemovesTheSourcesMembers : Prop :=
  ∀ (s : State) (kind : FrameKind) (source : Byte), s.holds kind source 0x70 [] →
    ∃ (slots : List Slot) (refs : List RefId) (t : State), exec .readNotices s = .next t ∧
      t = { s with
        noticePoints := t.noticePoints
        noticeRefs := t.noticeRefs
        port := s.answered kind source 0x00
          (BitVec.ofNat 8 (slots.length + refs.length) :: (slots.map slotByte ++ refs.map (fun r => 48 + refByte r))) } ∧
      slots.Pairwise (· < ·) ∧ refs.Pairwise (· < ·) ∧
      (∀ p : Slot, (p ∈ slots ↔ s.noticePoints[p] = true ∧ (source = 15 ∨ ∃ r, s.points[p] = some r ∧ r.owner = source)) ∧
        (t.noticePoints[p] = true ↔ s.noticePoints[p] = true ∧ p ∉ slots)) ∧
      (∀ r : RefId, (r ∈ refs ↔ s.noticeRefs[r] = true ∧ (source = 15 ∨ ∃ x, s.refs[r] = some x ∧ x.owner = source)) ∧
        (t.noticeRefs[r] = true ↔ s.noticeRefs[r] = true ∧ r ∉ refs))

/-- READ_STATUS changes nothing but the port, and its reply is laid out as Table 10-10 (R171), with the codes of Table 10-6 and
the numbers of defined points, LIVE points, defined references and owned channels. That the causes bits above bit 2 are 0 is the
model's choice (log 25). -/
def Obligations.ReadStatusReplyFollowsItsTable : Prop :=
  ((∀ j : Job, [ConverterState.idle, .supplyCheck j, .referencePhase j, .sensorPhase j, .hold].map converterByte =
      [0, 1, 2, 3, 4]) ∧
    [none, some DiscardReason.length, some .framing, some .cut, some .short, some .check, some .source, some .busy,
      some .lineBreak, some .notBroadcast, some .preempted].map discardByte = [0, 1, 2, 3, 4, 5, 6, 7, 8, 9, 10] ∧
    [false, true].map flagByte = [0, 1] ∧ (∀ p : Slot, slotByte p = BitVec.ofNat 8 p.val) ∧
    (∀ r : RefId, refByte r = BitVec.ofNat 8 r.val)) ∧
  ∀ (s : State) (kind : FrameKind) (source : Byte), s.holds kind source 0x71 [] →
    ∃ (reply : List Byte) (defined live : List Slot) (refs : List RefId) (owned : List ChannelId),
      (defined.Nodup ∧ ∀ p : Slot, p ∈ defined ↔ s.points[p] ≠ none) ∧
      (live.Nodup ∧ ∀ p : Slot, p ∈ live ↔ ∃ r, s.points[p] = some r ∧ r.state = .live) ∧
      (refs.Nodup ∧ ∀ r : RefId, r ∈ refs ↔ s.refs[r] ≠ none) ∧
      (owned.Nodup ∧ ∀ c : ChannelId, c ∈ owned ↔ s.channels[c].owner ≠ 0) ∧
      exec .readStatus s = .next { s with port := s.answered kind source 0x00 reply } ∧
      reply.length = 26 ∧ slice reply 1 2 = [0x17, 0xFC] ∧ slice reply 3 3 = [3] ∧
      slice reply 4 4 = [32 + s.addrStrap.setWidth 8] ∧ slice reply 5 5 = [s.rateStrap.setWidth 8] ∧
      slice reply 6 9 = be32 s.clock ∧ slice reply 10 10 = [converterByte s.converter.state] ∧
      (s.converter.state.job = none → slice reply 11 12 = [0, 0]) ∧
      (∀ j r, s.converter.state.job = some j → j.record = .ref r → slice reply 11 12 = [1, refByte r]) ∧
      (∀ j p, s.converter.state.job = some j → j.record = .point p → slice reply 11 12 = [2, slotByte p]) ∧
      slice reply 13 13 = [BitVec.ofNat 8 s.queue.length] ∧ slice reply 14 14 = [0] ∧
      slice reply 15 15 = [BitVec.ofNat 8 defined.length] ∧ slice reply 16 16 = [BitVec.ofNat 8 live.length] ∧
      slice reply 17 17 = [BitVec.ofNat 8 refs.length] ∧ slice reply 18 18 = [BitVec.ofNat 8 owned.length] ∧
      (∃ causes : Byte, slice reply 19 19 = [causes] ∧ causes.toNat < 8 ∧ causes.getLsbD 0 = s.causes.supplyLow ∧
        causes.getLsbD 1 = s.causes.lineContention ∧ causes.getLsbD 2 = s.causes.tableCleared) ∧
      slice reply 20 21 = be16 s.port.discardCount ∧ slice reply 22 22 = [discardByte s.port.lastDiscard] ∧
      slice reply 23 23 = [s.settings.floor.setWidth 8] ∧ slice reply 24 24 = [flagByte s.settings.alertEnable] ∧
      slice reply 25 25 = [flagByte s.settings.matrixEnable] ∧ slice reply 26 26 = [flagByte s.settings.lampTest]

/-- CLEAR_CAUSES clears the causes, the discard count and its reason (R168); SET_DEVICE writes the present settings (R170); both from
the service controller. ALERT is low exactly while the alert enable is on and a notice or a cause waits (R169). -/
def Obligations.CausesSettingsAndAlert : Prop :=
  (∀ (s : State) (kind : FrameKind), s.holds kind 15 0x72 [] → exec .clearCauses s = .next { s with
    causes := { supplyLow := false, lineContention := false, tableCleared := false }
    port := { s.answered kind 15 0x00 [] with discardCount := 0, lastDiscard := none } }) ∧
  (∀ (s : State) (kind : FrameKind) (mask floor alert matrix lamp : Byte),
    s.holds kind 15 0x73 [mask, floor, alert, matrix, lamp] →
    let inRange := mask.toNat < 16 ∧ (mask.getLsbD 0 = true → floor.toNat ≤ 7) ∧
      (mask.getLsbD 1 = true → alert.toNat ≤ 1) ∧ (mask.getLsbD 2 = true → matrix.toNat ≤ 1) ∧
      (mask.getLsbD 3 = true → lamp.toNat ≤ 1)
    (inRange → exec .setDevice s = .next { s with
      settings := {
        floor := if mask.getLsbD 0 = true then floor.setWidth 3 else s.settings.floor
        alertEnable := if mask.getLsbD 1 = true then decide (alert = 1) else s.settings.alertEnable
        matrixEnable := if mask.getLsbD 2 = true then decide (matrix = 1) else s.settings.matrixEnable
        lampTest := if mask.getLsbD 3 = true then decide (lamp = 1) else s.settings.lampTest }
      port := s.answered kind 15 0x00 [] }) ∧
    (¬ inRange → exec .setDevice s = .next { s with port := s.answered kind 15 0x1B [] })) ∧
  (∀ s : State, s.alertLow = true ↔ s.inReset = false ∧ s.settings.alertEnable = true ∧
    ((∃ p : Slot, s.noticePoints[p] = true) ∨ (∃ r : RefId, s.noticeRefs[r] = true) ∨ s.causes.supplyLow = true ∨
      s.causes.lineContention = true ∨ s.causes.tableCleared = true))

/-- CLEAR_TABLES from the service controller puts every table in its reset state, ends the job or the hold and sets TABLE_CLEARED; the
settings, the clock, the other causes, the matrix and the line port stay (R172, R89, R151). -/
def Obligations.ClearTablesEmptiesEveryTable : Prop :=
  ∀ (s : State) (kind : FrameKind), s.holds kind 15 0x74 [] → exec .clearTables s = .next { s with
    points := State.reset.points
    tagMap := State.reset.tagMap
    refs := State.reset.refs
    queue := []
    converter := { state := .idle, measurement := 0, timeBase := 0 }
    channels := State.reset.channels
    noticePoints := State.reset.noticePoints
    noticeRefs := State.reset.noticeRefs
    causes := { s.causes with tableCleared := true }
    port := s.answered kind 15 0x00 [] }

/-! ### Refusals -/

/-- A code that Table 10-5 does not list is answered UNKNOWN_COMMAND; a listed command whose payload has another length than the
table's is answered BAD_LENGTH; neither changes anything else (R188). A completion row without a frame of its code changes nothing,
which is the model's choice (log 2). -/
def Obligations.UnknownCodesAndWrongLengthsAreRefused : Prop :=
  (∀ (s : State) (kind : FrameKind) (source code : Byte) (payload : List Byte), s.holds kind source code payload →
    ((∀ row ∈ commandTable, row.2.1 ≠ code) →
      exec .unknownCommand s = .next { s with port := s.answered kind source 0x10 [] }) ∧
    ((∃ row ∈ commandTable, row.2.1 = code) → exec .unknownCommand s = .next s) ∧
    (∀ row ∈ commandTable, row.2.1 = code → payload.length ≠ row.2.2 →
      exec row.1 s = .next { s with port := s.answered kind source 0x11 [] }) ∧
    (∀ row ∈ commandTable, row.2.1 ≠ code → exec row.1 s = .next s)) ∧
  (∀ s : State, s.port.command = none →
    exec .unknownCommand s = .next s ∧ ∀ row ∈ commandTable, exec row.1 s = .next s)

/-- A command of the right length that names a slot, a reference or a channel out of range is answered BAD_SLOT, one that names a
vacant slot or an EMPTY reference SLOT_EMPTY (R7, R52, R138, R188), and a changing command from a source that is neither the
record's owner nor the service controller NOT_OWNER (R28, Table 2-1); nothing else changes. AMEND_POINT comes to these two answers
when what its present reference and binding name is within range and defined (R12). -/
def Obligations.NamedRecordsMustExistAndBeTheSources : Prop :=
  (∀ (s : State) (kind : FrameKind) (source code : Byte) (named : Byte) (rest : List Byte) (row : Instr) (length : Nat),
    s.holds kind source code (named :: rest) → (row, code, length) ∈ commandTable → rest.length + 1 = length →
    (row ∈ pointCommands → 47 < named.toNat → exec row s = .next { s with port := s.answered kind source 0x12 [] }) ∧
    (row = .definePoint → 47 < named.toNat → named ≠ 255 →
      exec row s = .next { s with port := s.answered kind source 0x12 [] }) ∧
    (row ∈ pointCommands →
      (row = .amendPoint → ∀ (mask : Half) (f : PointFields), rest = be16 mask ++ f.bytes → namesInRange mask f) →
      ∀ p : Slot, named = slotByte p → s.points[p] = none →
      exec row s = .next { s with port := s.answered kind source 0x14 [] }) ∧
    (row ∈ refCommands ∨ row = .defineRef → 3 < named.toNat →
      exec row s = .next { s with port := s.answered kind source 0x12 [] }) ∧
    (row ∈ refCommands → ∀ r : RefId, named = refByte r → s.refs[r] = none →
      exec row s = .next { s with port := s.answered kind source 0x14 [] }) ∧
    (row ∈ driveCommands → 7 < named.toNat → exec row s = .next { s with port := s.answered kind source 0x12 [] })) ∧
  (∀ (s : State) (kind : FrameKind) (source code : Byte) (payload : List Byte) (row : Instr) (length : Nat),
    s.holds kind source code payload → (row, code, length) ∈ commandTable → payload.length = length → source ≠ 15 →
    (row ∈ pointCommands → row ≠ .readPoint → row ≠ .takePoint → row ≠ .locatePoint →
      (row = .amendPoint → ∀ (mask : Half) (f : PointFields), payload.drop 1 = be16 mask ++ f.bytes →
        namesInRange mask f ∧ s.referenceDefined mask f) →
      ∀ (p : Slot) (r : PointRecord), payload.head? = some (slotByte p) → s.points[p] = some r →
        (source ≠ r.owner ∨ row = .assignOwner) →
        exec row s = .next { s with port := s.answered kind source 0x18 [] }) ∧
    (row ∈ refCommands → row ≠ .readRef → ∀ (r : RefId) (x : RefRecord), payload.head? = some (refByte r) →
      s.refs[r] = some x → source ≠ x.owner → exec row s = .next { s with port := s.answered kind source 0x18 [] }) ∧
    (row ∈ driveCommands → row ≠ .readDrive → ∀ c : ChannelId, payload.head? = some (channelByte c) →
      source ≠ s.channels[c].owner → (row = .configureDrive → s.channels[c].owner ≠ 0) →
      exec row s = .next { s with port := s.answered kind source 0x18 [] }) ∧
    (row = .clearCauses ∨ row = .setDevice ∨ row = .clearTables →
      exec row s = .next { s with port := s.answered kind source 0x18 [] }))

/-- A refused command changes no state but the port's, and the port only by freeing the command buffer and placing a reply without a
payload, whatever the command (R188). -/
def Obligations.RefusedCommandsChangeNothing : Prop :=
  ∀ (s t : State) (source code : Byte) (payload : List Byte) (row : Instr) (length : Nat) (reply : Reply),
    s.holds .directed source code payload → (row, code, length) ∈ commandTable → s.port.turnaround = true →
    exec row s = .next t → t.port.reply = some reply → reply.code ≠ 0x00 → reply.code ≠ 0x01 →
    t = { s with port := { s.port with command := none, reply := some ⟨source, reply.code, []⟩ } }

/-! ### The line port -/

/-- An address character drops a waiting reply as PREEMPTED (R185) or cuts a frame as CUT (R176), and starts a directed frame, a
broadcast frame or none (R175, R177). -/
def Obligations.AddressCharactersStartCutAndPreempt : Prop :=
  ∀ (s : State) (value : Byte), s.inReset = false → s.port.hears = true →
    (s.port.turnaround = true → s.port.rx = .addressWait) →
    let cut := ∃ kind, s.port.rx = .collecting kind
    ∀ reason : Option DiscardReason,
      (s.port.turnaround = true → reason = some .preempted) → (cut → reason = some .cut) →
      (s.port.turnaround = false → ¬ cut → reason = none) →
      exec (.addressCharacter value) s = .next { s with port := { s.port with
        rx := if value = s.dropAddress then .collecting .directed
          else if value = 127 then .collecting .broadcast else .addressWait
        buffer := []
        lowRun := .clear
        turnaround := false
        reply := if s.port.turnaround = true then none else s.port.reply
        discardCount := if reason.isSome then counted s.port.discardCount else s.port.discardCount
        lastDiscard := if reason.isSome then reason else s.port.lastDiscard } }

/-- In COLLECTING a data character is stored and the 81st discards the frame as LENGTH; a stop-bit error discards it as FRAMING unless
the whole character is low; the other receiver states ignore both (R175 to R177); nothing is taken while the part sends (R186). -/
def Obligations.DataCharactersAreCollectedOrIgnored : Prop :=
  ∀ (s : State) (value : Byte) (mark : Bool), s.inReset = false →
    (s.port.hears = true →
      (∀ kind, s.port.rx = .collecting kind →
        (s.port.buffer.length < 80 → exec (.dataCharacter value) s =
          .next { s with port := { s.port with buffer := s.port.buffer ++ [value], lowRun := .clear } }) ∧
        (80 ≤ s.port.buffer.length → exec (.dataCharacter value) s = .next { s with port := { s.port with
          rx := .discarding, buffer := [], lowRun := .clear, discardCount := counted s.port.discardCount,
          lastDiscard := some .length } }) ∧
        (¬ (value = 0 ∧ mark = false) → exec (.stopBitError value mark) s = .next { s with port := { s.port with
          rx := .discarding, buffer := [], lowRun := .clear, discardCount := counted s.port.discardCount,
          lastDiscard := some .framing } })) ∧
      (s.port.rx = .addressWait ∨ s.port.rx = .discarding →
        exec (.dataCharacter value) s = .next { s with port := { s.port with lowRun := .clear } } ∧
        (¬ (value = 0 ∧ mark = false) →
          exec (.stopBitError value mark) s = .next { s with port := { s.port with lowRun := .clear } })) ∧
      exec (.stopBitError 0 false) s = .next { s with port := { s.port with lowRun := .allLow } }) ∧
    (s.port.isSending = true → exec (.dataCharacter value) s = .next s ∧ exec (.stopBitError value mark) s = .next s ∧
      exec (.addressCharacter value) s = .next s)

/-- At the idle gap a frame in COLLECTING is accepted when it passes the six checks, and otherwise discarded with the reason of the
first that fails (R179); DISCARDING ends (R177). An accepted directed frame starts its turnaround (R184), a broadcast one none
(R183). -/
def Obligations.FramesAreAcceptedOrDiscardedAtTheGap : Prop :=
  ∀ (s : State), s.inReset = false → s.port.hears = true →
    let discarded (reason : DiscardReason) : State := { s with port := { s.port with
      rx := .addressWait, buffer := [], lowRun := .clear, discardCount := counted s.port.discardCount,
      lastDiscard := some reason } }
    (∀ kind, s.port.rx = .collecting kind →
      (s.port.buffer.length < 5 → exec .idleGap s = .next (discarded .short)) ∧
      (∀ (source code length : Byte) (payload check : List Byte), check.length = 2 →
        s.port.buffer = source :: code :: length :: (payload ++ check) →
        (length.toNat ≠ payload.length → exec .idleGap s = .next (discarded .length)) ∧
        (length.toNat = payload.length →
          (check ≠ be16 (frameCheck (source :: code :: length :: payload)) →
            exec .idleGap s = .next (discarded .check)) ∧
          (check = be16 (frameCheck (source :: code :: length :: payload)) →
            (source = 0 ∨ 15 < source.toNat → exec .idleGap s = .next (discarded .source)) ∧
            (1 ≤ source.toNat → source.toNat ≤ 15 →
              (s.port.command ≠ none → exec .idleGap s = .next (discarded .busy)) ∧
              (s.port.command = none →
                (kind = .broadcast → code ≠ 0x41 → exec .idleGap s = .next (discarded .notBroadcast)) ∧
                ((kind = .broadcast → code = 0x41) → exec .idleGap s = .next { s with port := { s.port with
                  rx := .addressWait, buffer := [], lowRun := .clear,
                  command := some ⟨kind, source, code, payload⟩,
                  turnaround := s.port.turnaround || decide (kind = .directed) } }))))))) ∧
    (s.port.rx = .discarding →
      exec .idleGap s = .next { s with port := { s.port with rx := .addressWait, buffer := [], lowRun := .clear } }) ∧
    (s.port.rx = .addressWait → exec .idleGap s = .next { s with port := { s.port with lowRun := .clear } })

/-- A break discards a frame in COLLECTING or a waiting reply as BREAK and puts the receiver in ADDRESS_WAIT (R178); a line that rises
after an all-low character and before a break discards a frame in COLLECTING as FRAMING (R176). That the receiver waits for one bit
time of high line after an all-low character too is read by inference (log 14), and that a rise with nothing to judge changes nothing
is the model's choice (log 2). -/
def Obligations.BreaksAndRisesJudgeALowLine : Prop :=
  (∀ s : State, s.inReset = false → s.port.isSending = false → s.port.lowRun ≠ .broken →
    (∀ kind, s.port.rx = .collecting kind → s.port.turnaround = false → exec .lineBreak s = .next { s with port := { s.port with
      rx := .addressWait, buffer := [], lowRun := .broken, discardCount := counted s.port.discardCount,
      lastDiscard := some .lineBreak } }) ∧
    (s.port.rx = .addressWait → s.port.turnaround = true → exec .lineBreak s = .next { s with port := { s.port with
      rx := .addressWait, buffer := [], lowRun := .broken, turnaround := false, reply := none,
      discardCount := counted s.port.discardCount, lastDiscard := some .lineBreak } }) ∧
    (s.port.rx = .addressWait ∨ s.port.rx = .discarding → s.port.turnaround = false →
      exec .lineBreak s = .next { s with port := { s.port with rx := .addressWait, buffer := [], lowRun := .broken } })) ∧
  (∀ s : State, s.inReset = false →
    (∀ kind, s.port.lowRun = .allLow → s.port.rx = .collecting kind → exec .lineRise s = .next { s with port := { s.port with
      rx := .discarding, buffer := [], lowRun := .settling, discardCount := counted s.port.discardCount,
      lastDiscard := some .framing } }) ∧
    (s.port.lowRun = .allLow → s.port.rx = .addressWait ∨ s.port.rx = .discarding →
      exec .lineRise s = .next { s with port := { s.port with lowRun := .settling } }) ∧
    (s.port.lowRun = .broken → exec .lineRise s = .next { s with port := { s.port with lowRun := .settling } }) ∧
    (s.port.lowRun = .clear ∨ s.port.lowRun = .settling → exec .lineRise s = .next s)) ∧
  (∀ s : State, s.inReset = false → s.port.lowRun = .broken →
    ∀ value : Byte, exec (.addressCharacter value) s = .next s ∧ exec (.dataCharacter value) s = .next s)

/-- When the turnaround ends with the reply built, the reply's frame of 6 + L characters is sent (R184, R186); a matching echo sends
the next character or ends the reply; a differing one abandons it and sets LINE_CONTENTION (R187). That a row without its condition
changes nothing is the model's choice (log 2), and that the start of sending is a row of its own is read by inference (log 15). -/
def Obligations.RepliesAreSentAndEchoed : Prop :=
  (∀ (s : State) (r : Reply), s.inReset = false → s.port.reply = some r → s.port.turnaround = true → s.port.hears = true →
    ∃ body : List Byte, body = s.dropAddress :: r.code :: BitVec.ofNat 8 r.payload.length :: r.payload ∧
    ∃ sent : List LineCharacter,
      sent = ⟨r.destination, true⟩ :: (body ++ be16 (frameCheck body)).map (fun b => ⟨b, false⟩) ∧
      sent.length = 6 + r.payload.length ∧
      exec .turnaroundEnd s = .next { s with port := { s.port with
        rx := .addressWait, buffer := [], turnaround := false, sending := sent } }) ∧
  (∀ s : State, s.inReset = false → s.port.reply = none ∨ s.port.turnaround = false →
    exec .turnaroundEnd s = .next s) ∧
  (∀ (s : State) (c : LineCharacter) (rest : List LineCharacter), s.inReset = false → s.port.sending = c :: rest →
    s.lineDE = true ∧ s.lineTX = some c ∧
    (rest ≠ [] → exec (.characterEcho c.data c.mark true) s = .next { s with port := { s.port with sending := rest } }) ∧
    (rest = [] → exec (.characterEcho c.data c.mark true) s = .next { s with port := { s.port with
      rx := .addressWait, buffer := [], reply := none, sending := [] } }) ∧
    (∀ (data : Byte) (mark stop : Bool), data ≠ c.data ∨ mark ≠ c.mark ∨ stop = false →
      exec (.characterEcho data mark stop) s = .next { s with
        port := { s.port with rx := .addressWait, buffer := [], reply := none, sending := [], lowRun := .settling }
        causes := { s.causes with lineContention := true } }))

/-- Every command frame that can be written on the line is read back: the rows of its characters and of the gap that ends it put
exactly its source, code and payload in the command buffer, for every payload of up to 75 bytes, directed or broadcast
(R175 to R180, R183, Table 10-4). The frame check of "1" to "9" is 29B1h (R180). -/
def Obligations.FramesOnTheLineReachTheCommandBuffer : Prop :=
  (∀ (s : State) (source code : Byte) (payload : List Byte), s.inReset = false → s.port.hears = true →
    s.port.rx = .addressWait ∨ s.port.rx = .discarding → s.port.turnaround = false → s.port.command = none →
    payload.length ≤ 75 → 1 ≤ source.toNat → source.toNat ≤ 15 →
    runRows (frameRows s.dropAddress source code payload) s = .next { s with port := { s.port with
      rx := .addressWait, buffer := [], lowRun := .clear, command := some ⟨.directed, source, code, payload⟩,
      turnaround := true } } ∧
    (code = 0x41 → runRows (frameRows 127 source code payload) s = .next { s with port := { s.port with
      rx := .addressWait, buffer := [], lowRun := .clear, command := some ⟨.broadcast, source, code, payload⟩ } })) ∧
  frameCheck [0x31, 0x32, 0x33, 0x34, 0x35, 0x36, 0x37, 0x38, 0x39] = 0x29B1
end

