-- ==== Sys2Proof/Laws/Operands.lean ====
section
/-! SUPPORT. Reading back what is written: the byte of a slot, a reference, a channel, a flag and a binding, two-byte fields, the
field layouts of the commands, and the test that a command makes on the record it names. -/

namespace Sys2Proof.Machine

@[simp] theorem slotByte_toNat (p : Slot) : (slotByte p).toNat = p.val := by
  have := p.isLt
  simp only [slotByte, BitVec.toNat_ofNat]
  omega

@[simp] theorem refByte_toNat (r : RefId) : (refByte r).toNat = r.val := by
  have := r.isLt
  simp only [refByte, BitVec.toNat_ofNat]
  omega

@[simp] theorem channelByte_toNat (c : ChannelId) : (channelByte c).toNat = c.val := by
  have := c.isLt
  simp only [channelByte, BitVec.toNat_ofNat]
  omega

@[simp] theorem sensorByte_toNat (i : SensorId) : (sensorByte i).toNat = i.val := by
  have := i.isLt
  simp only [sensorByte, BitVec.toNat_ofNat]
  omega

/-- A command that names a non-vacant slot finds its record. -/
theorem onPoint_some {s : State} {p : Slot} {r : PointRecord} (h : s.points[p] = some r)
    (rest : Slot → PointRecord → Answer) : onPoint (slotByte p) s rest = rest p r := by
  rw [Fin.getElem_fin] at h
  simp [onPoint, h]

/-- A command that names a vacant slot is answered SLOT_EMPTY. -/
theorem onPoint_none {s : State} {p : Slot} (h : s.points[p] = none) (rest : Slot → PointRecord → Answer) :
    onPoint (slotByte p) s rest = .refuse .slotEmpty := by
  rw [Fin.getElem_fin] at h
  simp [onPoint, h]

/-- A command that names a defined reference finds its record. -/
theorem onRef_some {s : State} {r : RefId} {x : RefRecord} (h : s.refs[r] = some x)
    (rest : RefId → RefRecord → Answer) : onRef (refByte r) s rest = rest r x := by
  rw [Fin.getElem_fin] at h
  simp [onRef, h]

/-- A command that names an EMPTY reference is answered SLOT_EMPTY. -/
theorem onRef_none {s : State} {r : RefId} (h : s.refs[r] = none) (rest : RefId → RefRecord → Answer) :
    onRef (refByte r) s rest = .refuse .slotEmpty := by
  rw [Fin.getElem_fin] at h
  simp [onRef, h]

/-- A drive command that names a channel acts on it. -/
theorem onChannel_channelByte (c : ChannelId) (rest : ChannelId → Answer) : onChannel (channelByte c) rest = rest c := by
  simp [onChannel]

theorem onPoint_badSlot (slot : Byte) (s : State) (rest : Slot → PointRecord → Answer) (h : 47 < slot.toNat) :
    onPoint slot s rest = .refuse .badSlot := by
  simp [onPoint, show ¬ slot.toNat < 48 by omega]

theorem onRef_badSlot (designator : Byte) (s : State) (rest : RefId → RefRecord → Answer) (h : 3 < designator.toNat) :
    onRef designator s rest = .refuse .badSlot := by
  simp [onRef, show ¬ designator.toNat < 4 by omega]

theorem onChannel_badSlot (channel : Byte) (rest : ChannelId → Answer) (h : 7 < channel.toNat) :
    onChannel channel rest = .refuse .badSlot := by
  simp [onChannel, show ¬ channel.toNat < 8 by omega]

@[simp] theorem refCoded_refByte (r : RefId) : refCoded (refByte r) = true := by
  simp [refCoded]

@[simp] theorem refOf_refByte (r : RefId) : refOf (refByte r) = r := by
  apply Fin.ext
  simp [refOf, Fin.ofNat, Nat.mod_eq_of_lt r.isLt]

@[simp] theorem sensorOf_sensorByte (i : SensorId) : sensorOf (sensorByte i) = i := by
  apply Fin.ext
  simp [sensorOf, Fin.ofNat, Nat.mod_eq_of_lt i.isLt]

@[simp] theorem flagCoded_flagByte (b : Bool) : flagCoded (flagByte b) = true := by cases b <;> rfl

@[simp] theorem flagOf_flagByte (b : Bool) : flagOf (flagByte b) = b := by cases b <;> rfl

@[simp] theorem bindingCoded_bindingByte (b : Option ChannelId) : bindingCoded (bindingByte b) = true := by
  cases b with
  | none => rfl
  | some c => simp [bindingCoded, bindingByte]

@[simp] theorem bindingOf_bindingByte (b : Option ChannelId) : bindingOf (bindingByte b) = b := by
  revert b
  decide

/-- A two-byte field is read back from its bytes. -/
@[simp] theorem half_be16 (v : Half) : half (v.extractLsb' 8 8) (v.extractLsb' 0 8) = v := by
  apply BitVec.eq_of_getLsbD_eq
  intro i hi
  simp only [half, BitVec.getLsbD_append, BitVec.getLsbD_extractLsb']
  by_cases h : i < 8
  · simp [h]
  · simp [h, show i - 8 < 8 by omega, show 8 + (i - 8) = i by omega]

/-- The sixteen bytes of the definition fields are read back. -/
@[simp] theorem pointFieldsOf_bytes (f : PointFields) : pointFieldsOf f.bytes = some f := by
  simp [pointFieldsOf, PointFields.bytes, be16]

/-- The eight bytes of the levels are read back. -/
@[simp] theorem levelsOf_bytes (l : Levels) : levelsOf l.bytes = some l := by
  simp [levelsOf, Levels.bytes, be16]

/-- The fourteen bytes of a channel configuration are read back. -/
@[simp] theorem driveFieldsOf_bytes (polarity mode : Byte) (period manual : Half) (l : Levels) :
    driveFieldsOf ([polarity, mode] ++ be16 period ++ l.bytes ++ be16 manual) = some ⟨polarity, mode, period, l, manual⟩ := by
  simp [driveFieldsOf, Levels.bytes, be16]

/-- The band constraints as a test and as a proposition (R3). -/
theorem bandConstraints_iff (r : PointRecord) : bandConstraints r.bandLow r.bandHigh r.hysteresis = true ↔ r.bandFits := by
  simp [bandConstraints, PointRecord.bandFits]

/-! ### Coded names -/

/-- A slot is read back from its byte. -/
theorem slotByte_inj {p q : Slot} (h : slotByte p = slotByte q) : p = q := by
  have := congrArg BitVec.toNat h
  simp at this
  exact Fin.ext this

/-- A reference is read back from its byte. -/
theorem refByte_inj {r k : RefId} (h : refByte r = refByte k) : r = k := by
  have := congrArg BitVec.toNat h
  simp at this
  exact Fin.ext this

/-- A channel is read back from its byte. -/
theorem channelByte_inj {c d : ChannelId} (h : channelByte c = channelByte d) : c = d := by
  have := congrArg BitVec.toNat h
  simp at this
  exact Fin.ext this

/-- A reference byte within range is the byte of the reference that it carries. -/
theorem refByte_refOf {b : Byte} (h : b.toNat < 4) : refByte (refOf b) = b := by
  apply BitVec.eq_of_toNat_eq
  simp [refOf]
  omega

theorem bindingCoded_iff (b : Byte) : bindingCoded b = true ↔ bindingInRange b := by
  simp [bindingCoded, bindingInRange]

/-- FFh is no channel. -/
theorem ne_channelByte (c : ChannelId) : (255 : Byte) ≠ channelByte c := by
  intro h
  have := congrArg BitVec.toNat h
  simp at this
  omega

/-- A binding byte within range carries none or the channel whose byte it is. -/
theorem bindingOf_inRange {b : Byte} (h : bindingInRange b) :
    (b = 255 ∧ bindingOf b = none) ∨ ∃ c, b = channelByte c ∧ bindingOf b = some c := by
  rcases h with h | h
  · right
    refine ⟨⟨b.toNat, h⟩, BitVec.eq_of_toNat_eq (by simp), ?_⟩
    have hb : b ≠ 255 := by
      intro e
      subst e
      simp at h
    have e : bindingOf b = some (Fin.ofNat 8 b.toNat) := by
      simp [bindingOf]
      exact hb
    rw [e]
    congr 1
    ext
    simp
    omega
  · exact .inl ⟨h, by subst h; rfl⟩

end Sys2Proof.Machine
end

