-- ==== Sys2Proof/Laws/State.lean ====
section
/-! SUPPORT. One lemma per field per update of State, each true by rfl, so that no proof unfolds a record update. -/

namespace Sys2Proof.Machine

@[simp] theorem State.setPoint_inReset (s : State) (p : Slot) (r : Option PointRecord) : (s.setPoint p r).inReset = s.inReset := rfl
@[simp] theorem State.setPoint_addrStrap (s : State) (p : Slot) (r : Option PointRecord) : (s.setPoint p r).addrStrap = s.addrStrap := rfl
@[simp] theorem State.setPoint_rateStrap (s : State) (p : Slot) (r : Option PointRecord) : (s.setPoint p r).rateStrap = s.rateStrap := rfl
@[simp] theorem State.setPoint_clock (s : State) (p : Slot) (r : Option PointRecord) : (s.setPoint p r).clock = s.clock := rfl
@[simp] theorem State.setPoint_points (s : State) (p : Slot) (r : Option PointRecord) : (s.setPoint p r).points = s.points.set p r := rfl
@[simp] theorem State.setPoint_tagMap (s : State) (p : Slot) (r : Option PointRecord) : (s.setPoint p r).tagMap = s.tagMap := rfl
@[simp] theorem State.setPoint_refs (s : State) (p : Slot) (r : Option PointRecord) : (s.setPoint p r).refs = s.refs := rfl
@[simp] theorem State.setPoint_queue (s : State) (p : Slot) (r : Option PointRecord) : (s.setPoint p r).queue = s.queue := rfl
@[simp] theorem State.setPoint_converter (s : State) (p : Slot) (r : Option PointRecord) : (s.setPoint p r).converter = s.converter := rfl
@[simp] theorem State.setPoint_channels (s : State) (p : Slot) (r : Option PointRecord) : (s.setPoint p r).channels = s.channels := rfl
@[simp] theorem State.setPoint_matrix (s : State) (p : Slot) (r : Option PointRecord) : (s.setPoint p r).matrix = s.matrix := rfl
@[simp] theorem State.setPoint_noticePoints (s : State) (p : Slot) (r : Option PointRecord) : (s.setPoint p r).noticePoints = s.noticePoints := rfl
@[simp] theorem State.setPoint_noticeRefs (s : State) (p : Slot) (r : Option PointRecord) : (s.setPoint p r).noticeRefs = s.noticeRefs := rfl
@[simp] theorem State.setPoint_causes (s : State) (p : Slot) (r : Option PointRecord) : (s.setPoint p r).causes = s.causes := rfl
@[simp] theorem State.setPoint_settings (s : State) (p : Slot) (r : Option PointRecord) : (s.setPoint p r).settings = s.settings := rfl
@[simp] theorem State.setPoint_port (s : State) (p : Slot) (r : Option PointRecord) : (s.setPoint p r).port = s.port := rfl
@[simp] theorem State.setPoint_pending (s : State) (p : Slot) (r : Option PointRecord) : (s.setPoint p r).pending = s.pending := rfl

@[simp] theorem State.setTag_inReset (s : State) (p : Slot) (t : Option Half) : (s.setTag p t).inReset = s.inReset := rfl
@[simp] theorem State.setTag_addrStrap (s : State) (p : Slot) (t : Option Half) : (s.setTag p t).addrStrap = s.addrStrap := rfl
@[simp] theorem State.setTag_rateStrap (s : State) (p : Slot) (t : Option Half) : (s.setTag p t).rateStrap = s.rateStrap := rfl
@[simp] theorem State.setTag_clock (s : State) (p : Slot) (t : Option Half) : (s.setTag p t).clock = s.clock := rfl
@[simp] theorem State.setTag_points (s : State) (p : Slot) (t : Option Half) : (s.setTag p t).points = s.points := rfl
@[simp] theorem State.setTag_tagMap (s : State) (p : Slot) (t : Option Half) : (s.setTag p t).tagMap = s.tagMap.set p t := rfl
@[simp] theorem State.setTag_refs (s : State) (p : Slot) (t : Option Half) : (s.setTag p t).refs = s.refs := rfl
@[simp] theorem State.setTag_queue (s : State) (p : Slot) (t : Option Half) : (s.setTag p t).queue = s.queue := rfl
@[simp] theorem State.setTag_converter (s : State) (p : Slot) (t : Option Half) : (s.setTag p t).converter = s.converter := rfl
@[simp] theorem State.setTag_channels (s : State) (p : Slot) (t : Option Half) : (s.setTag p t).channels = s.channels := rfl
@[simp] theorem State.setTag_matrix (s : State) (p : Slot) (t : Option Half) : (s.setTag p t).matrix = s.matrix := rfl
@[simp] theorem State.setTag_noticePoints (s : State) (p : Slot) (t : Option Half) : (s.setTag p t).noticePoints = s.noticePoints := rfl
@[simp] theorem State.setTag_noticeRefs (s : State) (p : Slot) (t : Option Half) : (s.setTag p t).noticeRefs = s.noticeRefs := rfl
@[simp] theorem State.setTag_causes (s : State) (p : Slot) (t : Option Half) : (s.setTag p t).causes = s.causes := rfl
@[simp] theorem State.setTag_settings (s : State) (p : Slot) (t : Option Half) : (s.setTag p t).settings = s.settings := rfl
@[simp] theorem State.setTag_port (s : State) (p : Slot) (t : Option Half) : (s.setTag p t).port = s.port := rfl
@[simp] theorem State.setTag_pending (s : State) (p : Slot) (t : Option Half) : (s.setTag p t).pending = s.pending := rfl

@[simp] theorem State.setRef_inReset (s : State) (r : RefId) (x : Option RefRecord) : (s.setRef r x).inReset = s.inReset := rfl
@[simp] theorem State.setRef_addrStrap (s : State) (r : RefId) (x : Option RefRecord) : (s.setRef r x).addrStrap = s.addrStrap := rfl
@[simp] theorem State.setRef_rateStrap (s : State) (r : RefId) (x : Option RefRecord) : (s.setRef r x).rateStrap = s.rateStrap := rfl
@[simp] theorem State.setRef_clock (s : State) (r : RefId) (x : Option RefRecord) : (s.setRef r x).clock = s.clock := rfl
@[simp] theorem State.setRef_points (s : State) (r : RefId) (x : Option RefRecord) : (s.setRef r x).points = s.points := rfl
@[simp] theorem State.setRef_tagMap (s : State) (r : RefId) (x : Option RefRecord) : (s.setRef r x).tagMap = s.tagMap := rfl
@[simp] theorem State.setRef_refs (s : State) (r : RefId) (x : Option RefRecord) : (s.setRef r x).refs = s.refs.set r x := rfl
@[simp] theorem State.setRef_queue (s : State) (r : RefId) (x : Option RefRecord) : (s.setRef r x).queue = s.queue := rfl
@[simp] theorem State.setRef_converter (s : State) (r : RefId) (x : Option RefRecord) : (s.setRef r x).converter = s.converter := rfl
@[simp] theorem State.setRef_channels (s : State) (r : RefId) (x : Option RefRecord) : (s.setRef r x).channels = s.channels := rfl
@[simp] theorem State.setRef_matrix (s : State) (r : RefId) (x : Option RefRecord) : (s.setRef r x).matrix = s.matrix := rfl
@[simp] theorem State.setRef_noticePoints (s : State) (r : RefId) (x : Option RefRecord) : (s.setRef r x).noticePoints = s.noticePoints := rfl
@[simp] theorem State.setRef_noticeRefs (s : State) (r : RefId) (x : Option RefRecord) : (s.setRef r x).noticeRefs = s.noticeRefs := rfl
@[simp] theorem State.setRef_causes (s : State) (r : RefId) (x : Option RefRecord) : (s.setRef r x).causes = s.causes := rfl
@[simp] theorem State.setRef_settings (s : State) (r : RefId) (x : Option RefRecord) : (s.setRef r x).settings = s.settings := rfl
@[simp] theorem State.setRef_port (s : State) (r : RefId) (x : Option RefRecord) : (s.setRef r x).port = s.port := rfl
@[simp] theorem State.setRef_pending (s : State) (r : RefId) (x : Option RefRecord) : (s.setRef r x).pending = s.pending := rfl

@[simp] theorem State.setChannel_inReset (s : State) (c : ChannelId) (x : DriveChannel) : (s.setChannel c x).inReset = s.inReset := rfl
@[simp] theorem State.setChannel_addrStrap (s : State) (c : ChannelId) (x : DriveChannel) : (s.setChannel c x).addrStrap = s.addrStrap := rfl
@[simp] theorem State.setChannel_rateStrap (s : State) (c : ChannelId) (x : DriveChannel) : (s.setChannel c x).rateStrap = s.rateStrap := rfl
@[simp] theorem State.setChannel_clock (s : State) (c : ChannelId) (x : DriveChannel) : (s.setChannel c x).clock = s.clock := rfl
@[simp] theorem State.setChannel_points (s : State) (c : ChannelId) (x : DriveChannel) : (s.setChannel c x).points = s.points := rfl
@[simp] theorem State.setChannel_tagMap (s : State) (c : ChannelId) (x : DriveChannel) : (s.setChannel c x).tagMap = s.tagMap := rfl
@[simp] theorem State.setChannel_refs (s : State) (c : ChannelId) (x : DriveChannel) : (s.setChannel c x).refs = s.refs := rfl
@[simp] theorem State.setChannel_queue (s : State) (c : ChannelId) (x : DriveChannel) : (s.setChannel c x).queue = s.queue := rfl
@[simp] theorem State.setChannel_converter (s : State) (c : ChannelId) (x : DriveChannel) : (s.setChannel c x).converter = s.converter := rfl
@[simp] theorem State.setChannel_channels (s : State) (c : ChannelId) (x : DriveChannel) : (s.setChannel c x).channels = s.channels.set c x := rfl
@[simp] theorem State.setChannel_matrix (s : State) (c : ChannelId) (x : DriveChannel) : (s.setChannel c x).matrix = s.matrix := rfl
@[simp] theorem State.setChannel_noticePoints (s : State) (c : ChannelId) (x : DriveChannel) : (s.setChannel c x).noticePoints = s.noticePoints := rfl
@[simp] theorem State.setChannel_noticeRefs (s : State) (c : ChannelId) (x : DriveChannel) : (s.setChannel c x).noticeRefs = s.noticeRefs := rfl
@[simp] theorem State.setChannel_causes (s : State) (c : ChannelId) (x : DriveChannel) : (s.setChannel c x).causes = s.causes := rfl
@[simp] theorem State.setChannel_settings (s : State) (c : ChannelId) (x : DriveChannel) : (s.setChannel c x).settings = s.settings := rfl
@[simp] theorem State.setChannel_port (s : State) (c : ChannelId) (x : DriveChannel) : (s.setChannel c x).port = s.port := rfl
@[simp] theorem State.setChannel_pending (s : State) (c : ChannelId) (x : DriveChannel) : (s.setChannel c x).pending = s.pending := rfl

@[simp] theorem State.setQueue_inReset (s : State) (q : List QueueEntry) : (s.setQueue q).inReset = s.inReset := rfl
@[simp] theorem State.setQueue_addrStrap (s : State) (q : List QueueEntry) : (s.setQueue q).addrStrap = s.addrStrap := rfl
@[simp] theorem State.setQueue_rateStrap (s : State) (q : List QueueEntry) : (s.setQueue q).rateStrap = s.rateStrap := rfl
@[simp] theorem State.setQueue_clock (s : State) (q : List QueueEntry) : (s.setQueue q).clock = s.clock := rfl
@[simp] theorem State.setQueue_points (s : State) (q : List QueueEntry) : (s.setQueue q).points = s.points := rfl
@[simp] theorem State.setQueue_tagMap (s : State) (q : List QueueEntry) : (s.setQueue q).tagMap = s.tagMap := rfl
@[simp] theorem State.setQueue_refs (s : State) (q : List QueueEntry) : (s.setQueue q).refs = s.refs := rfl
@[simp] theorem State.setQueue_queue (s : State) (q : List QueueEntry) : (s.setQueue q).queue = q := rfl
@[simp] theorem State.setQueue_converter (s : State) (q : List QueueEntry) : (s.setQueue q).converter = s.converter := rfl
@[simp] theorem State.setQueue_channels (s : State) (q : List QueueEntry) : (s.setQueue q).channels = s.channels := rfl
@[simp] theorem State.setQueue_matrix (s : State) (q : List QueueEntry) : (s.setQueue q).matrix = s.matrix := rfl
@[simp] theorem State.setQueue_noticePoints (s : State) (q : List QueueEntry) : (s.setQueue q).noticePoints = s.noticePoints := rfl
@[simp] theorem State.setQueue_noticeRefs (s : State) (q : List QueueEntry) : (s.setQueue q).noticeRefs = s.noticeRefs := rfl
@[simp] theorem State.setQueue_causes (s : State) (q : List QueueEntry) : (s.setQueue q).causes = s.causes := rfl
@[simp] theorem State.setQueue_settings (s : State) (q : List QueueEntry) : (s.setQueue q).settings = s.settings := rfl
@[simp] theorem State.setQueue_port (s : State) (q : List QueueEntry) : (s.setQueue q).port = s.port := rfl
@[simp] theorem State.setQueue_pending (s : State) (q : List QueueEntry) : (s.setQueue q).pending = s.pending := rfl

@[simp] theorem State.setConverter_inReset (s : State) (c : Converter) : (s.setConverter c).inReset = s.inReset := rfl
@[simp] theorem State.setConverter_addrStrap (s : State) (c : Converter) : (s.setConverter c).addrStrap = s.addrStrap := rfl
@[simp] theorem State.setConverter_rateStrap (s : State) (c : Converter) : (s.setConverter c).rateStrap = s.rateStrap := rfl
@[simp] theorem State.setConverter_clock (s : State) (c : Converter) : (s.setConverter c).clock = s.clock := rfl
@[simp] theorem State.setConverter_points (s : State) (c : Converter) : (s.setConverter c).points = s.points := rfl
@[simp] theorem State.setConverter_tagMap (s : State) (c : Converter) : (s.setConverter c).tagMap = s.tagMap := rfl
@[simp] theorem State.setConverter_refs (s : State) (c : Converter) : (s.setConverter c).refs = s.refs := rfl
@[simp] theorem State.setConverter_queue (s : State) (c : Converter) : (s.setConverter c).queue = s.queue := rfl
@[simp] theorem State.setConverter_converter (s : State) (c : Converter) : (s.setConverter c).converter = c := rfl
@[simp] theorem State.setConverter_channels (s : State) (c : Converter) : (s.setConverter c).channels = s.channels := rfl
@[simp] theorem State.setConverter_matrix (s : State) (c : Converter) : (s.setConverter c).matrix = s.matrix := rfl
@[simp] theorem State.setConverter_noticePoints (s : State) (c : Converter) : (s.setConverter c).noticePoints = s.noticePoints := rfl
@[simp] theorem State.setConverter_noticeRefs (s : State) (c : Converter) : (s.setConverter c).noticeRefs = s.noticeRefs := rfl
@[simp] theorem State.setConverter_causes (s : State) (c : Converter) : (s.setConverter c).causes = s.causes := rfl
@[simp] theorem State.setConverter_settings (s : State) (c : Converter) : (s.setConverter c).settings = s.settings := rfl
@[simp] theorem State.setConverter_port (s : State) (c : Converter) : (s.setConverter c).port = s.port := rfl
@[simp] theorem State.setConverter_pending (s : State) (c : Converter) : (s.setConverter c).pending = s.pending := rfl

@[simp] theorem State.setMatrix_inReset (s : State) (m : Matrix) : (s.setMatrix m).inReset = s.inReset := rfl
@[simp] theorem State.setMatrix_addrStrap (s : State) (m : Matrix) : (s.setMatrix m).addrStrap = s.addrStrap := rfl
@[simp] theorem State.setMatrix_rateStrap (s : State) (m : Matrix) : (s.setMatrix m).rateStrap = s.rateStrap := rfl
@[simp] theorem State.setMatrix_clock (s : State) (m : Matrix) : (s.setMatrix m).clock = s.clock := rfl
@[simp] theorem State.setMatrix_points (s : State) (m : Matrix) : (s.setMatrix m).points = s.points := rfl
@[simp] theorem State.setMatrix_tagMap (s : State) (m : Matrix) : (s.setMatrix m).tagMap = s.tagMap := rfl
@[simp] theorem State.setMatrix_refs (s : State) (m : Matrix) : (s.setMatrix m).refs = s.refs := rfl
@[simp] theorem State.setMatrix_queue (s : State) (m : Matrix) : (s.setMatrix m).queue = s.queue := rfl
@[simp] theorem State.setMatrix_converter (s : State) (m : Matrix) : (s.setMatrix m).converter = s.converter := rfl
@[simp] theorem State.setMatrix_channels (s : State) (m : Matrix) : (s.setMatrix m).channels = s.channels := rfl
@[simp] theorem State.setMatrix_matrix (s : State) (m : Matrix) : (s.setMatrix m).matrix = m := rfl
@[simp] theorem State.setMatrix_noticePoints (s : State) (m : Matrix) : (s.setMatrix m).noticePoints = s.noticePoints := rfl
@[simp] theorem State.setMatrix_noticeRefs (s : State) (m : Matrix) : (s.setMatrix m).noticeRefs = s.noticeRefs := rfl
@[simp] theorem State.setMatrix_causes (s : State) (m : Matrix) : (s.setMatrix m).causes = s.causes := rfl
@[simp] theorem State.setMatrix_settings (s : State) (m : Matrix) : (s.setMatrix m).settings = s.settings := rfl
@[simp] theorem State.setMatrix_port (s : State) (m : Matrix) : (s.setMatrix m).port = s.port := rfl
@[simp] theorem State.setMatrix_pending (s : State) (m : Matrix) : (s.setMatrix m).pending = s.pending := rfl

@[simp] theorem State.setNoticePoint_inReset (s : State) (p : Slot) (b : Bool) : (s.setNoticePoint p b).inReset = s.inReset := rfl
@[simp] theorem State.setNoticePoint_addrStrap (s : State) (p : Slot) (b : Bool) : (s.setNoticePoint p b).addrStrap = s.addrStrap := rfl
@[simp] theorem State.setNoticePoint_rateStrap (s : State) (p : Slot) (b : Bool) : (s.setNoticePoint p b).rateStrap = s.rateStrap := rfl
@[simp] theorem State.setNoticePoint_clock (s : State) (p : Slot) (b : Bool) : (s.setNoticePoint p b).clock = s.clock := rfl
@[simp] theorem State.setNoticePoint_points (s : State) (p : Slot) (b : Bool) : (s.setNoticePoint p b).points = s.points := rfl
@[simp] theorem State.setNoticePoint_tagMap (s : State) (p : Slot) (b : Bool) : (s.setNoticePoint p b).tagMap = s.tagMap := rfl
@[simp] theorem State.setNoticePoint_refs (s : State) (p : Slot) (b : Bool) : (s.setNoticePoint p b).refs = s.refs := rfl
@[simp] theorem State.setNoticePoint_queue (s : State) (p : Slot) (b : Bool) : (s.setNoticePoint p b).queue = s.queue := rfl
@[simp] theorem State.setNoticePoint_converter (s : State) (p : Slot) (b : Bool) : (s.setNoticePoint p b).converter = s.converter := rfl
@[simp] theorem State.setNoticePoint_channels (s : State) (p : Slot) (b : Bool) : (s.setNoticePoint p b).channels = s.channels := rfl
@[simp] theorem State.setNoticePoint_matrix (s : State) (p : Slot) (b : Bool) : (s.setNoticePoint p b).matrix = s.matrix := rfl
@[simp] theorem State.setNoticePoint_noticePoints (s : State) (p : Slot) (b : Bool) : (s.setNoticePoint p b).noticePoints = s.noticePoints.set p b := rfl
@[simp] theorem State.setNoticePoint_noticeRefs (s : State) (p : Slot) (b : Bool) : (s.setNoticePoint p b).noticeRefs = s.noticeRefs := rfl
@[simp] theorem State.setNoticePoint_causes (s : State) (p : Slot) (b : Bool) : (s.setNoticePoint p b).causes = s.causes := rfl
@[simp] theorem State.setNoticePoint_settings (s : State) (p : Slot) (b : Bool) : (s.setNoticePoint p b).settings = s.settings := rfl
@[simp] theorem State.setNoticePoint_port (s : State) (p : Slot) (b : Bool) : (s.setNoticePoint p b).port = s.port := rfl
@[simp] theorem State.setNoticePoint_pending (s : State) (p : Slot) (b : Bool) : (s.setNoticePoint p b).pending = s.pending := rfl

@[simp] theorem State.setNoticeRef_inReset (s : State) (r : RefId) (b : Bool) : (s.setNoticeRef r b).inReset = s.inReset := rfl
@[simp] theorem State.setNoticeRef_addrStrap (s : State) (r : RefId) (b : Bool) : (s.setNoticeRef r b).addrStrap = s.addrStrap := rfl
@[simp] theorem State.setNoticeRef_rateStrap (s : State) (r : RefId) (b : Bool) : (s.setNoticeRef r b).rateStrap = s.rateStrap := rfl
@[simp] theorem State.setNoticeRef_clock (s : State) (r : RefId) (b : Bool) : (s.setNoticeRef r b).clock = s.clock := rfl
@[simp] theorem State.setNoticeRef_points (s : State) (r : RefId) (b : Bool) : (s.setNoticeRef r b).points = s.points := rfl
@[simp] theorem State.setNoticeRef_tagMap (s : State) (r : RefId) (b : Bool) : (s.setNoticeRef r b).tagMap = s.tagMap := rfl
@[simp] theorem State.setNoticeRef_refs (s : State) (r : RefId) (b : Bool) : (s.setNoticeRef r b).refs = s.refs := rfl
@[simp] theorem State.setNoticeRef_queue (s : State) (r : RefId) (b : Bool) : (s.setNoticeRef r b).queue = s.queue := rfl
@[simp] theorem State.setNoticeRef_converter (s : State) (r : RefId) (b : Bool) : (s.setNoticeRef r b).converter = s.converter := rfl
@[simp] theorem State.setNoticeRef_channels (s : State) (r : RefId) (b : Bool) : (s.setNoticeRef r b).channels = s.channels := rfl
@[simp] theorem State.setNoticeRef_matrix (s : State) (r : RefId) (b : Bool) : (s.setNoticeRef r b).matrix = s.matrix := rfl
@[simp] theorem State.setNoticeRef_noticePoints (s : State) (r : RefId) (b : Bool) : (s.setNoticeRef r b).noticePoints = s.noticePoints := rfl
@[simp] theorem State.setNoticeRef_noticeRefs (s : State) (r : RefId) (b : Bool) : (s.setNoticeRef r b).noticeRefs = s.noticeRefs.set r b := rfl
@[simp] theorem State.setNoticeRef_causes (s : State) (r : RefId) (b : Bool) : (s.setNoticeRef r b).causes = s.causes := rfl
@[simp] theorem State.setNoticeRef_settings (s : State) (r : RefId) (b : Bool) : (s.setNoticeRef r b).settings = s.settings := rfl
@[simp] theorem State.setNoticeRef_port (s : State) (r : RefId) (b : Bool) : (s.setNoticeRef r b).port = s.port := rfl
@[simp] theorem State.setNoticeRef_pending (s : State) (r : RefId) (b : Bool) : (s.setNoticeRef r b).pending = s.pending := rfl

@[simp] theorem State.setCauses_inReset (s : State) (c : Causes) : (s.setCauses c).inReset = s.inReset := rfl
@[simp] theorem State.setCauses_addrStrap (s : State) (c : Causes) : (s.setCauses c).addrStrap = s.addrStrap := rfl
@[simp] theorem State.setCauses_rateStrap (s : State) (c : Causes) : (s.setCauses c).rateStrap = s.rateStrap := rfl
@[simp] theorem State.setCauses_clock (s : State) (c : Causes) : (s.setCauses c).clock = s.clock := rfl
@[simp] theorem State.setCauses_points (s : State) (c : Causes) : (s.setCauses c).points = s.points := rfl
@[simp] theorem State.setCauses_tagMap (s : State) (c : Causes) : (s.setCauses c).tagMap = s.tagMap := rfl
@[simp] theorem State.setCauses_refs (s : State) (c : Causes) : (s.setCauses c).refs = s.refs := rfl
@[simp] theorem State.setCauses_queue (s : State) (c : Causes) : (s.setCauses c).queue = s.queue := rfl
@[simp] theorem State.setCauses_converter (s : State) (c : Causes) : (s.setCauses c).converter = s.converter := rfl
@[simp] theorem State.setCauses_channels (s : State) (c : Causes) : (s.setCauses c).channels = s.channels := rfl
@[simp] theorem State.setCauses_matrix (s : State) (c : Causes) : (s.setCauses c).matrix = s.matrix := rfl
@[simp] theorem State.setCauses_noticePoints (s : State) (c : Causes) : (s.setCauses c).noticePoints = s.noticePoints := rfl
@[simp] theorem State.setCauses_noticeRefs (s : State) (c : Causes) : (s.setCauses c).noticeRefs = s.noticeRefs := rfl
@[simp] theorem State.setCauses_causes (s : State) (c : Causes) : (s.setCauses c).causes = c := rfl
@[simp] theorem State.setCauses_settings (s : State) (c : Causes) : (s.setCauses c).settings = s.settings := rfl
@[simp] theorem State.setCauses_port (s : State) (c : Causes) : (s.setCauses c).port = s.port := rfl
@[simp] theorem State.setCauses_pending (s : State) (c : Causes) : (s.setCauses c).pending = s.pending := rfl

@[simp] theorem State.setSettings_inReset (s : State) (c : Settings) : (s.setSettings c).inReset = s.inReset := rfl
@[simp] theorem State.setSettings_addrStrap (s : State) (c : Settings) : (s.setSettings c).addrStrap = s.addrStrap := rfl
@[simp] theorem State.setSettings_rateStrap (s : State) (c : Settings) : (s.setSettings c).rateStrap = s.rateStrap := rfl
@[simp] theorem State.setSettings_clock (s : State) (c : Settings) : (s.setSettings c).clock = s.clock := rfl
@[simp] theorem State.setSettings_points (s : State) (c : Settings) : (s.setSettings c).points = s.points := rfl
@[simp] theorem State.setSettings_tagMap (s : State) (c : Settings) : (s.setSettings c).tagMap = s.tagMap := rfl
@[simp] theorem State.setSettings_refs (s : State) (c : Settings) : (s.setSettings c).refs = s.refs := rfl
@[simp] theorem State.setSettings_queue (s : State) (c : Settings) : (s.setSettings c).queue = s.queue := rfl
@[simp] theorem State.setSettings_converter (s : State) (c : Settings) : (s.setSettings c).converter = s.converter := rfl
@[simp] theorem State.setSettings_channels (s : State) (c : Settings) : (s.setSettings c).channels = s.channels := rfl
@[simp] theorem State.setSettings_matrix (s : State) (c : Settings) : (s.setSettings c).matrix = s.matrix := rfl
@[simp] theorem State.setSettings_noticePoints (s : State) (c : Settings) : (s.setSettings c).noticePoints = s.noticePoints := rfl
@[simp] theorem State.setSettings_noticeRefs (s : State) (c : Settings) : (s.setSettings c).noticeRefs = s.noticeRefs := rfl
@[simp] theorem State.setSettings_causes (s : State) (c : Settings) : (s.setSettings c).causes = s.causes := rfl
@[simp] theorem State.setSettings_settings (s : State) (c : Settings) : (s.setSettings c).settings = c := rfl
@[simp] theorem State.setSettings_port (s : State) (c : Settings) : (s.setSettings c).port = s.port := rfl
@[simp] theorem State.setSettings_pending (s : State) (c : Settings) : (s.setSettings c).pending = s.pending := rfl

@[simp] theorem State.setPort_inReset (s : State) (p : Port) : (s.setPort p).inReset = s.inReset := rfl
@[simp] theorem State.setPort_addrStrap (s : State) (p : Port) : (s.setPort p).addrStrap = s.addrStrap := rfl
@[simp] theorem State.setPort_rateStrap (s : State) (p : Port) : (s.setPort p).rateStrap = s.rateStrap := rfl
@[simp] theorem State.setPort_clock (s : State) (p : Port) : (s.setPort p).clock = s.clock := rfl
@[simp] theorem State.setPort_points (s : State) (p : Port) : (s.setPort p).points = s.points := rfl
@[simp] theorem State.setPort_tagMap (s : State) (p : Port) : (s.setPort p).tagMap = s.tagMap := rfl
@[simp] theorem State.setPort_refs (s : State) (p : Port) : (s.setPort p).refs = s.refs := rfl
@[simp] theorem State.setPort_queue (s : State) (p : Port) : (s.setPort p).queue = s.queue := rfl
@[simp] theorem State.setPort_converter (s : State) (p : Port) : (s.setPort p).converter = s.converter := rfl
@[simp] theorem State.setPort_channels (s : State) (p : Port) : (s.setPort p).channels = s.channels := rfl
@[simp] theorem State.setPort_matrix (s : State) (p : Port) : (s.setPort p).matrix = s.matrix := rfl
@[simp] theorem State.setPort_noticePoints (s : State) (p : Port) : (s.setPort p).noticePoints = s.noticePoints := rfl
@[simp] theorem State.setPort_noticeRefs (s : State) (p : Port) : (s.setPort p).noticeRefs = s.noticeRefs := rfl
@[simp] theorem State.setPort_causes (s : State) (p : Port) : (s.setPort p).causes = s.causes := rfl
@[simp] theorem State.setPort_settings (s : State) (p : Port) : (s.setPort p).settings = s.settings := rfl
@[simp] theorem State.setPort_port (s : State) (p : Port) : (s.setPort p).port = p := rfl
@[simp] theorem State.setPort_pending (s : State) (p : Port) : (s.setPort p).pending = s.pending := rfl

end Sys2Proof.Machine
end

