-- ==== Sys2Proof/Laws/Commands.lean ====
section
/-! SUPPORT. What completing a command, a check and a row that needs the part to run can do. -/

namespace Sys2Proof.Machine

@[simp] theorem require_true (code : ReplyCode) (rest : Answer) : require true code rest = rest := rfl

@[simp] theorem require_false (code : ReplyCode) (rest : Answer) : require false code rest = .refuse code := rfl

/-- A check either fails with its code or hands on to the rest. -/
theorem require_eq (passes : Bool) (code : ReplyCode) (rest : Answer) :
    require passes code rest = if passes = true then rest else .refuse code := rfl

/-- A check that is answered OK has passed. -/
theorem require_ok {passes : Bool} {code : ReplyCode} {rest : Answer} {t : State} {payload : List Byte}
    (h : require passes code rest = .ok t payload) : passes = true ∧ rest = .ok t payload := by
  cases passes
  · simp [require] at h
  · exact ⟨rfl, h⟩

/-- The completion row of the frame that the part holds answers what the executor answers. -/
theorem complete_holds {s : State} {kind : FrameKind} {source code : Byte} {payload : List Byte}
    (h : s.holds kind source code payload) (command : Byte → List Byte → State → Answer) :
    complete code command s = .next (s.finish ⟨kind, source, code, payload⟩ (command source payload s)) := by
  obtain ⟨h1, h2⟩ := h
  simp [complete, h1, h2]

/-- A completion row answers either the state itself or the completion of a frame of its code. -/
theorem complete_next {code : Byte} {command : Byte → List Byte → State → Answer} {s t : State}
    (h : complete code command s = .next t) :
    t = s ∨ ∃ f, s.inReset = false ∧ s.port.command = some f ∧ f.code = code ∧
      t = s.finish f (command f.source f.payload s) := by
  unfold complete at h
  split at h
  · next f h1 h2 =>
    split at h
    · next h3 =>
      right
      exact ⟨f, h1, h2, by simpa using h3, (Host.Outcome.next.inj h).symm⟩
    · exact .inl (Host.Outcome.next.inj h).symm
  · exact .inl (Host.Outcome.next.inj h).symm

/-- A refusal changes nothing but the port (R188). -/
@[simp] theorem finish_refuse (s : State) (kind : FrameKind) (source code : Byte) (payload : List Byte) (c : ReplyCode) :
    s.finish ⟨kind, source, code, payload⟩ (.refuse c) = { s with port := s.answered kind source (replyByte c) [] } := by
  simp [State.finish, State.deliver, State.setPort, State.answered]

/-- OK places its reply and frees the command buffer, on the state that the command leaves, whose port is that of before. -/
theorem finish_ok {s t : State} (h : t.port = s.port) (kind : FrameKind) (source code : Byte) (payload reply : List Byte) :
    s.finish ⟨kind, source, code, payload⟩ (.ok t reply) = { t with port := s.answered kind source 0x00 reply } := by
  simp [State.finish, State.deliver, State.setPort, State.answered, okCode, h]

/-- ACCEPTED places its reply and frees the command buffer (R56). -/
theorem finish_accepted {s t : State} (h : t.port = s.port) (kind : FrameKind) (source code : Byte) (payload : List Byte) :
    s.finish ⟨kind, source, code, payload⟩ (.accepted t) = { t with port := s.answered kind source 0x01 [] } := by
  simp [State.finish, State.deliver, State.setPort, State.answered, acceptedCode, h]

/-- The delivery of a reply changes nothing but the port. -/
theorem deliver_frame (s : State) (f : CommandFrame) (code : Byte) (payload : List Byte) :
    s.deliver f code payload = { s with port := (s.deliver f code payload).port } := rfl

/-- A row of a part that is not in reset has its effect. -/
@[simp] theorem running_free {s : State} (h : s.inReset = false) (t : State) : running s t = .next t := by
  simp [running, h]

/-- A row of a part that is held in reset has none. -/
@[simp] theorem running_reset {s : State} (h : s.inReset = true) (t : State) : running s t = .next s := by
  simp [running, h]

/-- A row answers its effect or the state itself. -/
theorem running_next {s t u : State} (h : running s t = .next u) : u = t ∨ u = s := by
  unfold running at h
  split at h
  · exact .inr (Host.Outcome.next.inj h).symm
  · exact .inl (Host.Outcome.next.inj h).symm

/-! ### Refusals -/

/-- The answer is the refusal with this code. -/
def Answer.refusedWith (a : Answer) (code : Byte) : Prop := ∃ c, a = .refuse c ∧ replyByte c = code

/-- A check and the rest follow an ordered list of checks when the check is the first of them and the rest follows the others. -/
theorem require_refusedWith {passes : Bool} {p : Prop} {c : ReplyCode} {k code : Byte} {rest : Answer}
    {checks : List (Prop × Byte)} (h : firstFailing ((p, k) :: checks) code) (hp : passes = true ↔ p) (hk : replyByte c = k)
    (hrest : p → firstFailing checks code → rest.refusedWith code) : (require passes c rest).refusedWith code := by
  rcases h with ⟨h1, h2⟩ | ⟨h1, h2⟩
  · have : passes = false := Bool.eq_false_iff.2 fun e => h1 (hp.1 e)
    rw [this]
    exact ⟨c, rfl, hk.trans h2.symm⟩
  · rw [hp.2 h1]
    exact hrest h1 h2

/-- A refusal changes nothing but the port, with its code in the reply (R188). -/
theorem finish_refusedWith {s : State} {a : Answer} {kind : FrameKind} {source code k : Byte} {payload : List Byte}
    (h : a.refusedWith k) :
    s.finish ⟨kind, source, code, payload⟩ a = { s with port := s.answered kind source k [] } := by
  obtain ⟨c, rfl, rfl⟩ := h
  exact finish_refuse s kind source code payload c

/-- The drive binding test refuses as its list of checks says (R7). -/
theorem bindingTest_refusedWith {s : State} {b owner code : Byte} {p : Slot} {goesTo : Slot → Prop} {rest : Answer}
    (hb : bindingInRange b) (hp : ∀ q, goesTo q ↔ q = p) (h : firstFailing (bindingChecks s b owner goesTo) code) :
    (bindingTest s (bindingOf b) owner p rest).refusedWith code := by
  rcases bindingOf_inRange hb with ⟨rfl, _⟩ | ⟨c, rfl, hc⟩
  · rcases h with ⟨h1, _⟩ | ⟨_, ⟨h1, _⟩ | ⟨_, ⟨h1, _⟩ | ⟨_, h1⟩⟩⟩
    · exact absurd (fun c e => absurd e (ne_channelByte c)) h1
    · exact absurd (fun c e => absurd e (ne_channelByte c)) h1
    · exact absurd (fun c _ e => absurd e (ne_channelByte c)) h1
    · exact h1.elim
  · rw [hc]
    refine require_refusedWith h ?_ rfl fun _ h => require_refusedWith h ?_ rfl fun _ h =>
      require_refusedWith h ?_ rfl fun _ h => h.elim
    · rw [beq_iff_eq]
      exact ⟨fun h d e => channelByte_inj e ▸ h, fun h => h c rfl⟩
    · rw [beq_iff_eq]
      exact ⟨fun h d e => channelByte_inj e ▸ h, fun h => h c rfl⟩
    · rw [Bool.or_eq_true, beq_iff_eq, beq_iff_eq]
      refine ⟨fun h d q e hq => ?_, fun h => h c p rfl ((hp p).2 rfl)⟩
      rw [(hp q).1 hq, ← channelByte_inj e]
      exact h

/-- The tag map holds a tag for no slot. -/
theorem slotOfTag_isNone (s : State) (t : Half) : (s.slotOfTag t).isNone = true ↔ ∀ q : Slot, s.tagMap[q] ≠ some t := by
  simp [State.slotOfTag]

/-- The open-reference test as a disjunction (R31). -/
theorem sharedWith_iff (x : RefRecord) (owner : Byte) :
    sharedWith x owner = true ↔ x.owner = owner ∨ x.isOpen = true ∨ owner = 15 := by
  simp [sharedWith, Config.service, or_assoc]

end Sys2Proof.Machine
end

