-- ==== Sys2Proof/Laws/Converter.lean ====
section
/-! SUPPORT. What the counting of the ratio converter says, as arithmetic on N, T, the frequency and the excitation. -/

namespace Sys2Proof.Machine

theorem cyclesPerCount_eq (e : Excitation) : cyclesPerCount e = if e = .alternating then 2 else 1 := by cases e <;> rfl

/-- The current runs in reverse in every second cycle under ALTERNATING, and in no other (R73). -/
theorem runsForward_eq (e : Excitation) (cycle : Nat) : runsForward e cycle = decide (e = .dc ∨ cycle % 2 = 0) := by
  cases e
  · simp [runsForward]
  · simp [runsForward]
    rfl

/-- The count completes exactly when the oscillator runs and its T fits the time base (R76, R77). -/
theorem countsInTime_iff (j : Job) (frequency : Nat) :
    countsInTime j frequency = true ↔
      0 < frequency ∧ cyclesPerCount j.excitation * j.span.toNat * 4000000000000 / frequency ≤ 4194303 := by
  unfold countsInTime countedTime timeBaseRate
  rw [Bool.and_eq_true, decide_eq_true_iff, decide_eq_true_iff]

/-- M is the whole counted cycles of the window (R74, R81). -/
theorem windowCount_eq {j : Job} {t : BitVec 22} (h : j.count = some t) (frequency : Nat) :
    windowCount j.excitation j.window frequency =
      frequency * t.toNat / 4000000000000 / (if j.excitation = .alternating then 2 else 1) := by
  rw [← cyclesPerCount_eq]
  simp [windowCount, countedCycles, oscillatorCycles, timeBaseRate, Job.window, h]

/-- ALTERNATING doubles the time of the same number of counted cycles, to within one count (R74). -/
theorem countedTime_alternating (n frequency : Nat) :
    2 * countedTime .dc n frequency ≤ countedTime .alternating n frequency ∧
    countedTime .alternating n frequency ≤ 2 * countedTime .dc n frequency + 1 := by
  have h : 2 * n * timeBaseRate = 2 * (n * timeBaseRate) := Nat.mul_assoc ..
  simp only [countedTime, cyclesPerCount, Nat.one_mul, h]
  generalize n * timeBaseRate = x
  rcases Nat.eq_zero_or_pos frequency with rfl | hf
  · simp
  · constructor
    · rw [Nat.le_div_iff_mul_le hf]
      have := Nat.div_mul_le_self x frequency
      calc 2 * (x / frequency) * frequency = 2 * (x / frequency * frequency) := by ring
        _ ≤ 2 * x := by omega
    · rw [← Nat.lt_succ_iff, Nat.div_lt_iff_lt_mul hf]
      have := Nat.lt_div_mul_add hf (a := x)
      calc 2 * x < 2 * (x / frequency * frequency + frequency) := by omega
        _ = (2 * (x / frequency) + 1).succ * frequency := by rw [Nat.succ_eq_add_one]; ring

/-- The value of a measurement: the quotient held to 65,535, CLAMPED exactly when it was held (R82). -/
theorem measuredValue_eq (n : Half) (m : Nat) :
    (measuredValue n m).1.toNat = min 65535 (n.toNat * 16384 / m) ∧
    (measuredValue n m).2 = if 65535 < n.toNat * 16384 / m then .clamped else .good := by
  simp only [measuredValue]
  generalize n.toNat * 16384 / m = q
  split
  · exact ⟨by simp; omega, rfl⟩
  · exact ⟨by simp; omega, rfl⟩

end Sys2Proof.Machine
end

