-- ==== Sys2Proof/Laws/Ops.lean ====
section
/-! SUPPORT. What each shared operation over the tables can do: the due queue requests, the counts of a reference, the requests to a
drive channel, and the abort of a job. -/

namespace Sys2Proof.Machine

/-! ### The due queue -/

/-- Where an entry is placed: the queue is cut in two, none of the entries ahead is preceded, the first one behind is (R94). -/
theorem placeEntry_split (e : QueueEntry) (q : List QueueEntry) :
    ∃ a b, q = a ++ b ∧ placeEntry e q = a ++ e :: b ∧ (∀ x ∈ a, precedes e x = false) ∧
      (∀ y ∈ b.head?, precedes e y = true) := by
  induction q with
  | nil => exact ⟨[], [], by simp [placeEntry]⟩
  | cons x q ih =>
    by_cases h : precedes e x = true
    · exact ⟨[], x :: q, by simp [placeEntry, h]⟩
    · obtain ⟨a, b, h1, h2, h3, h4⟩ := ih
      refine ⟨x :: a, b, by simp [h1], by simp [placeEntry, h, h2], ?_, h4⟩
      intro y hy
      rcases List.mem_cons.1 hy with rfl | hy
      · simpa using h
      · exact h3 y hy

/-- Placing adds the entry and nothing else. -/
theorem placeEntry_perm (e : QueueEntry) (q : List QueueEntry) : (placeEntry e q).Perm (e :: q) := by
  obtain ⟨a, b, h1, h2, -, -⟩ := placeEntry_split e q
  rw [h2, h1]
  exact List.perm_middle

theorem mem_placeEntry (e x : QueueEntry) (q : List QueueEntry) : x ∈ placeEntry e q ↔ x = e ∨ x ∈ q := by
  rw [(placeEntry_perm e q).mem_iff, List.mem_cons]

/-- Placing an entry of one record leaves the entry of every other record as it is. -/
theorem entryIn_placeEntry_ne {e : QueueEntry} {q : List QueueEntry} {k : Record} (h : e.record ≠ k) :
    entryIn (placeEntry e q) k = entryIn q k := by
  induction q with
  | nil => simp [placeEntry, entryIn, h]
  | cons x q ih =>
    unfold entryIn at ih ⊢
    unfold placeEntry
    split
    · simp [h]
    · simp only [List.find?_cons, ih]

/-- Placing an entry of a record without one makes it that record's entry. -/
theorem entryIn_placeEntry_self {e : QueueEntry} {q : List QueueEntry} (h : entryIn q e.record = none) :
    entryIn (placeEntry e q) e.record = some e := by
  induction q with
  | nil => simp [placeEntry, entryIn]
  | cons x q ih =>
    have hx : (x.record == e.record) = false := by
      cases hx : x.record == e.record
      · rfl
      · simp [entryIn, hx] at h
    have hq : entryIn q e.record = none := by simpa [entryIn, hx] using h
    unfold entryIn at ih hq ⊢
    unfold placeEntry
    split
    · simp
    · simpa [List.find?_cons, hx] using ih hq

/-- A removed record has no entry. -/
@[simp] theorem entryIn_removeFrom_self (q : List QueueEntry) (k : Record) : entryIn (removeFrom q k) k = none := by
  simp [entryIn, removeFrom]

/-- Removing the entry of one record leaves the entry of every other record as it is. -/
theorem entryIn_removeFrom_ne {q : List QueueEntry} {k j : Record} (h : j ≠ k) :
    entryIn (removeFrom q k) j = entryIn q j := by
  induction q with
  | nil => rfl
  | cons x q ih =>
    unfold entryIn removeFrom at ih ⊢
    by_cases hx : x.record = k
    · simp [hx, ih, Ne.symm h]
    · simp [hx, List.find?_cons, ih]

/-- Removing the entry of a record without one changes nothing. -/
theorem removeFrom_none {q : List QueueEntry} {k : Record} (h : entryIn q k = none) : removeFrom q k = q := by
  unfold entryIn at h
  unfold removeFrom
  rw [List.filter_eq_self]
  intro x hx
  simpa using List.find?_eq_none.1 h x hx

theorem insertInto_some {q : List QueueEntry} {k : Record} {e : QueueEntry} (h : entryIn q k = some e) (due now : Clock) :
    insertInto q k due now = q := by
  simp [insertInto, h]

theorem insertInto_none {q : List QueueEntry} {k : Record} (h : entryIn q k = none) (due now : Clock) :
    insertInto q k due now = placeEntry ⟨k, due, atOrBefore due now⟩ q := by
  simp [insertInto, h]

theorem returnInto_some {q : List QueueEntry} {k : Record} {e : QueueEntry} (h : entryIn q k = some e) (due : Clock) :
    returnInto q k due = q := by
  simp [returnInto, h]

theorem returnInto_none {q : List QueueEntry} {k : Record} (h : entryIn q k = none) (due : Clock) :
    returnInto q k due = placeEntry ⟨k, due, true⟩ q := by
  simp [returnInto, h]

theorem moveWithin_some {q : List QueueEntry} {k : Record} {e : QueueEntry} (h : entryIn q k = some e) (due now : Clock) :
    moveWithin q k due now = placeEntry ⟨k, due, atOrBefore due now⟩ (removeFrom q k) := by
  simp [moveWithin, h]

theorem moveWithin_none {q : List QueueEntry} {k : Record} (h : entryIn q k = none) (due now : Clock) :
    moveWithin q k due now = q := by
  simp [moveWithin, h]

/-- After an insert the record has the entry that it had, or the new one. -/
theorem entryIn_insertInto_self (q : List QueueEntry) (k : Record) (due now : Clock) :
    entryIn (insertInto q k due now) k = some ((entryIn q k).getD ⟨k, due, atOrBefore due now⟩) := by
  cases h : entryIn q k with
  | none =>
    rw [insertInto_none h]
    simpa using entryIn_placeEntry_self (e := ⟨k, due, atOrBefore due now⟩) h
  | some e => rw [insertInto_some h, h, Option.getD_some]

theorem entryIn_insertInto_ne (q : List QueueEntry) {k j : Record} (due now : Clock) (h : j ≠ k) :
    entryIn (insertInto q k due now) j = entryIn q j := by
  unfold insertInto
  split
  · rfl
  · exact entryIn_placeEntry_ne (Ne.symm h)

theorem entryIn_returnInto_self (q : List QueueEntry) (k : Record) (due : Clock) :
    entryIn (returnInto q k due) k = some ((entryIn q k).getD ⟨k, due, true⟩) := by
  cases h : entryIn q k with
  | none =>
    rw [returnInto_none h]
    simpa using entryIn_placeEntry_self (e := ⟨k, due, true⟩) h
  | some e => rw [returnInto_some h, h, Option.getD_some]

theorem entryIn_returnInto_ne (q : List QueueEntry) {k j : Record} (due : Clock) (h : j ≠ k) :
    entryIn (returnInto q k due) j = entryIn q j := by
  unfold returnInto
  split
  · rfl
  · exact entryIn_placeEntry_ne (Ne.symm h)

theorem entryIn_moveWithin_self (q : List QueueEntry) (k : Record) (due now : Clock) :
    entryIn (moveWithin q k due now) k = (entryIn q k).map (fun _ => ⟨k, due, atOrBefore due now⟩) := by
  cases h : entryIn q k with
  | none => rw [moveWithin_none h, h, Option.map_none]
  | some e =>
    rw [moveWithin_some h]
    simpa using entryIn_placeEntry_self (e := ⟨k, due, atOrBefore due now⟩) (entryIn_removeFrom_self q k)

theorem entryIn_moveWithin_ne (q : List QueueEntry) {k j : Record} (due now : Clock) (h : j ≠ k) :
    entryIn (moveWithin q k due now) j = entryIn q j := by
  unfold moveWithin
  split
  · rw [entryIn_placeEntry_ne (Ne.symm h), entryIn_removeFrom_ne h]
  · rfl

/-- Now is at or before now. -/
@[simp] theorem atOrBefore_self (t : Clock) : atOrBefore t t = true := by simp [atOrBefore]

/-- A point brought forward keeps a marked entry and has an unmarked one moved to now (R105). -/
theorem entryIn_bringForward_self (now : Clock) (q : List QueueEntry) (p : Slot) :
    entryIn (bringForward now q p) (.point p) =
      (entryIn q (.point p)).map (fun e => if e.mark = true then e else ⟨.point p, now, true⟩) := by
  unfold bringForward
  cases h : entryIn q (.point p) with
  | none => simpa using h
  | some e =>
    by_cases hm : e.mark = true
    · simp [hm, h]
    · simp [hm, entryIn_moveWithin_self, h]

theorem entryIn_bringForward_ne (now : Clock) (q : List QueueEntry) {p : Slot} {k : Record} (h : k ≠ .point p) :
    entryIn (bringForward now q p) k = entryIn q k := by
  unfold bringForward
  split
  · split
    · rfl
    · exact entryIn_moveWithin_ne q now now h
  · rfl

/-! ### Counts of a reference -/

theorem gainUser_some {s : State} {r : RefId} {x : RefRecord} (h : s.refs[r] = some x) :
    s.gainUser r = { s with refs := s.refs.set r (some { x with users := x.users + 1 }) } := by
  simp only [State.gainUser, h]; rfl

theorem loseUser_some {s : State} {r : RefId} {x : RefRecord} (h : s.refs[r] = some x) :
    s.loseUser r = { s with refs := s.refs.set r (some { x with users := x.users - 1 }) } := by
  simp only [State.loseUser, h]; rfl

/-- A gained live user: the count, and the reference's entry with the first one (R98). -/
theorem gainLiveUser_some {s : State} {r : RefId} {x : RefRecord} (h : s.refs[r] = some x) :
    s.gainLiveUser r = { s with
      refs := s.refs.set r (some { x with liveUsers := x.liveUsers + 1 })
      queue := if x.liveUsers = 0 ∧ s.isCurrent (.ref r) = false then insertInto s.queue (.ref r) (refDue x s.clock) s.clock
        else s.queue } := by
  simp only [State.gainLiveUser, h]
  cases hc : s.isCurrent (.ref r) <;> by_cases h0 : x.liveUsers = 0 <;>
    simp [h0, State.insertEntry, State.setRef, State.setQueue]

/-- A lost live user: the count, and the removal of the reference's entry with the last one and no request (R98). -/
theorem loseLiveUser_some {s : State} {r : RefId} {x : RefRecord} (h : s.refs[r] = some x) :
    s.loseLiveUser r = { s with
      refs := s.refs.set r (some { x with liveUsers := x.liveUsers - 1 })
      queue := if x.liveUsers = 1 ∧ x.request = false then removeFrom s.queue (.ref r) else s.queue } := by
  simp only [State.loseLiveUser, h]
  cases hc : x.request <;> by_cases h0 : x.liveUsers = 1 <;>
    simp [h0, State.removeEntry, State.setRef, State.setQueue]

/-! ### Requests to a drive channel -/

/-- A channel in OWN mode takes the request. -/
theorem request_own {x : DriveChannel} (h : x.mode = .own) (duty : Half) :
    x.request duty = { x with pendingDuty := some duty } := by
  simp [DriveChannel.request, h]

/-- A follower takes none (R137). -/
theorem request_follow {x : DriveChannel} (h : x.mode = .follow) (duty : Half) : x.request duty = x := by
  simp [DriveChannel.request, h]

/-- The request of a point writes the pending duty of its bound channel and nothing else (R122). -/
theorem requestLevel_own {s : State} {b : Option ChannelId} (h : s.ownMode b) (a : Alarm) :
    s.requestLevel b a = { s with channels := s.channelsAsked b (levelFor a) } := by
  cases b with
  | none => rfl
  | some c => simp only [State.requestLevel, State.channelsAsked, request_own (h c rfl)]; rfl

/-- The request of a point changes nothing but the channels. -/
theorem requestLevel_frame (s : State) (b : Option ChannelId) (a : Alarm) :
    s.requestLevel b a = { s with channels := (s.requestLevel b a).channels } := by
  cases b <;> rfl

theorem bindChannel_frame (s : State) (b : Option ChannelId) (p : Slot) (a : Alarm) :
    s.bindChannel b p a = { s with channels := (s.bindChannel b p a).channels } := by
  cases b <;> rfl

theorem unbindChannel_frame (s : State) (b : Option ChannelId) :
    s.unbindChannel b = { s with channels := (s.unbindChannel b).channels } := by
  cases b <;> rfl

theorem moveChannelOwner_frame (s : State) (b : Option ChannelId) (owner : Byte) :
    s.moveChannelOwner b owner = { s with channels := (s.moveChannelOwner b owner).channels } := by
  cases b <;> rfl

/-! ### The current job -/

/-- An abort makes the converter IDLE when the record is the current job, and does nothing otherwise (R84). -/
theorem abortJob_eq (s : State) (k : Record) :
    s.abortJob k = { s with converter := if s.isCurrent k = true then Converter.reset else s.converter } := by
  cases h : s.isCurrent k <;> simp [State.abortJob, h, State.setConverter]

/-- Which record is the current job is read off the converter alone. -/
theorem isCurrent_congr {s t : State} (h : s.converter = t.converter) (k : Record) : s.isCurrent k = t.isCurrent k := by
  simp [State.isCurrent, h]

end Sys2Proof.Machine
end

