-- ==== Sys2Proof/Laws/Evaluator.lean ====
section
/-! SUPPORT. What an outcome does to a point: the evaluator's two operations as one record update each, and the fields of State
that they and the count operations leave alone. -/

namespace Sys2Proof.Machine

/-! ### Frames of the count operations -/

/-- A gained user changes the reference table only. -/
theorem gainUser_frame (s : State) (r : RefId) : s.gainUser r = { s with refs := (s.gainUser r).refs } := by
  cases h : s.refs[r] with
  | none => simp [State.gainUser, h]
  | some x => rw [gainUser_some h]

/-- A lost user changes the reference table only. -/
theorem loseUser_frame (s : State) (r : RefId) : s.loseUser r = { s with refs := (s.loseUser r).refs } := by
  cases h : s.refs[r] with
  | none => simp [State.loseUser, h]
  | some x => rw [loseUser_some h]

/-- A gained live user changes the reference table and the due queue only. -/
theorem gainLiveUser_frame (s : State) (r : RefId) :
    s.gainLiveUser r = { s with refs := (s.gainLiveUser r).refs, queue := (s.gainLiveUser r).queue } := by
  cases h : s.refs[r] with
  | none => simp [State.gainLiveUser, h]
  | some x => rw [gainLiveUser_some h]

/-- A lost live user changes the reference table and the due queue only. -/
theorem loseLiveUser_frame (s : State) (r : RefId) :
    s.loseLiveUser r = { s with refs := (s.loseLiveUser r).refs, queue := (s.loseLiveUser r).queue } := by
  cases h : s.refs[r] with
  | none => simp [State.loseLiveUser, h]
  | some x => rw [loseLiveUser_some h]

/-! ### The evaluator -/

/-- What a change of the judgement hands on, for a point whose bound channel is in OWN mode (R121, R122). -/
theorem announce_own {s : State} {r : PointRecord} (h : s.ownMode r.binding) (p : Slot) (a : Alarm) :
    s.announce p r a = { s with
      noticePoints := if r.notify = true then s.noticePoints.set p true else s.noticePoints
      channels := s.channelsAsked r.binding (levelFor a) } := by
  unfold State.announce
  cases hn : r.notify
  · simpa using requestLevel_own h a
  · simp only [if_true]
    rw [requestLevel_own (s := s.joinPoint p) h a]
    rfl

/-- The announcement changes the notice set and the channels only. -/
theorem announce_frame (s : State) (p : Slot) (r : PointRecord) (a : Alarm) :
    s.announce p r a = { s with
      noticePoints := (s.announce p r a).noticePoints, channels := (s.announce p r a).channels } := by
  unfold State.announce
  cases hb : r.binding <;> cases hn : r.notify <;> rfl

/-- A measurement outcome as one update of the part (R113, R121, R122). -/
theorem evaluateMeasurement_some {s : State} {p : Slot} {r : PointRecord} (hp : s.points[p] = some r)
    (ho : s.ownMode r.binding) (start : Clock) (v : Half) (q : Quality) :
    s.evaluateMeasurement p start v q = { s with
      points := s.points.set p (some (measuredRecord r v q s.clock))
      queue := insertInto s.queue (.point p) (start + intervalMs r.interval) s.clock
      noticePoints := if judge r v ≠ r.alarm ∧ r.notify = true then s.noticePoints.set p true else s.noticePoints
      channels := if judge r v ≠ r.alarm then s.channelsAsked r.binding (levelFor (judge r v)) else s.channels } := by
  simp only [State.evaluateMeasurement, hp]
  by_cases ha : judge r v = r.alarm
  · simp [ha, State.setPoint, State.insertEntry, State.setQueue]
  · have ha' : (judge r v != r.alarm) = true := by simpa using ha
    simp only [ha', if_true]
    rw [announce_own (by intro c hc; exact ho c hc)]
    simp [ha, State.setPoint, State.channelsAsked, State.insertEntry, State.setQueue]

/-- A fault outcome as one update of the part (R119, R120, R122, R98). -/
theorem evaluateFault_some {s : State} {p : Slot} {r : PointRecord} {x : RefRecord} (hp : s.points[p] = some r)
    (hx : s.refs[r.reference] = some x) (ho : s.ownMode r.binding) (start : Clock) (q : Quality) :
    s.evaluateFault p start q = s.afterFault p r x start q := by
  simp only [State.evaluateFault, hp]
  by_cases hl : r.faultLimit.toNat ≤ r.faults + 1
  · have h1 : reachesLimit r = true := by simpa [reachesLimit] using hl
    simp only [h1, if_true, Bool.or_true, faultedRecord]
    rw [loseLiveUser_some (x := x) (by simpa using hx), announce_own (by intro c hc; exact ho c hc)]
    simp [State.afterFault, hl, State.setPoint, State.channelsAsked]
    rfl
  · have h1 : reachesLimit r = false := by simpa [reachesLimit] using hl
    simp only [h1, Bool.or_false, faultedRecord, Bool.false_eq_true, if_false]
    by_cases ha : r.alarm = .fault
    · simp [ha, State.afterFault, hl, State.setPoint, State.insertEntry, State.setQueue, intervalMs]
    · have ha' : (r.alarm != .fault) = true := by simpa using ha
      simp only [ha', if_true]
      rw [announce_own (by intro c hc; exact ho c hc)]
      simp [State.afterFault, hl, ha, State.setPoint, State.channelsAsked, State.insertEntry, State.setQueue, intervalMs]
      rfl

end Sys2Proof.Machine
end

