-- ==== Sys2Proof/WellFormed.lean ====
section
/-! DEFINITION. Which rows can be sent. Slots, channels, columns and characters carry their range in their type, and an oscillator
may have any frequency; what is left to check is that VDDA lies within the supply range of the pin summary. -/

namespace Sys2Proof

/-- VDDA does not exceed 3.6 V (Table 0-2). A level below 2.6 V can be sent: it is what the supply check is for (R68). -/
def Instr.wellFormed : Instr → Bool
  | .supplyCheckLatch vdda => decide (vdda ≤ Config.vddaMax)
  | _ => true

end Sys2Proof
end

