-- ==== Sys2Proof/Tests/Slice0.lean ====
section
/-! SUPPORT. Own tests: what WellFormed refuses, one step of each row on a small state with the figures of the book's worked
sequences, and, for every obligation with hypotheses, a state and operands that meet them. -/

namespace Sys2Proof.Tests

set_option synthInstance.maxSize 4096
set_option synthInstance.maxHeartbeats 400000
set_option Elab.async false

open Sys2Proof.Machine

/-! ### Terms that WellFormed refuses -/

theorem test_vdda_at_limit_is_wellformed : (Instr.supplyCheckLatch 3600).wellFormed = true := by decide

theorem test_vdda_above_limit_is_refused : (Instr.supplyCheckLatch 3601).wellFormed = false := by decide

/-! ### A small part: the zone of the worked sequence of section 1.11, a while after its last event -/

/-- Reference A of section 1.11, VALID with T = 40,960. -/
def refA : RefRecord :=
  { state := .valid, owner := 3, isOpen := false, excitation := .dc, span := 4096, recal := 600, usedRecal := 600, count := some 40960,
    calTime := some 50010, lastFault := none, faultTime := none, prior := none, request := false, users := 2,
    liveUsers := 1 }

/-- P0 of section 1.11, LIVE and NORMAL with the check figure as its value. -/
def p0 : PointRecord :=
  { state := .live, owner := 3, tag := 1201, input := 2, reference := 0, interval := 100, staleFactor := 3, faultLimit := 4,
    bandLow := 18000, bandHigh := 22000, hysteresis := 500, notify := true, binding := some 1, lastValue := some 20478,
    quality := .good, alarm := .normal, faults := 0, resultTime := some 52000, deadline := some 55000, offer := none,
    locate := none }

/-- P1 of section 1.11 before its start: DORMANT. -/
def p1 : PointRecord :=
  { state := .dormant, owner := 3, tag := 1202, input := 5, reference := 0, interval := 500, staleFactor := 4,
    faultLimit := 3, bandLow := 8000, bandHigh := 12000, hysteresis := 200, notify := false, binding := none,
    lastValue := none, quality := .none, alarm := .unknown, faults := 0, resultTime := none, deadline := none, offer := none,
    locate := none }

/-- D1, enabled and bound to P0, with the duty of its NORMAL level running. -/
def d1 : DriveChannel :=
  { owner := 3, enabled := true, polarity := .activeHigh, mode := .own, activePeriod := 1000, activeDuty := 300,
    pendingPeriod := none, pendingDuty := none, levels := ⟨300, 800, 0, 200⟩, manualDuty := 50, binding := some 0,
    counter := 0 }

/-- The part with these records, at 52,500 ms, the converter IDLE. -/
def zone : State :=
  { State.reset with
    clock := 52500
    points := (State.reset.points.set 0 (some p0)).set 1 (some p1)
    tagMap := (State.reset.tagMap.set 0 (some 1201)).set 1 (some 1202)
    refs := State.reset.refs.set 0 (some refA)
    queue := [⟨.point 0, 53000, false⟩, ⟨.ref 0, 650010, false⟩]
    channels := State.reset.channels.set 1 d1
    causes := ⟨false, false, false⟩ }

/-- The zone with other records for P0, reference A and D1. -/
def withP0 (r : PointRecord) (s : State) : State := { s with points := s.points.set 0 (some r) }

def withRefA (x : RefRecord) (s : State) : State := { s with refs := s.refs.set 0 (some x) }

def withD1 (x : DriveChannel) (s : State) : State := { s with channels := s.channels.set 1 x }

def withJob (c : ConverterState) (s : State) : State := { s with converter := { s.converter with state := c } }

/-- A part whose command buffer holds a directed frame, in its turnaround. -/
def asking (source code : Byte) (payload : List Byte) (s : State) : State :=
  { s with port := { s.port with command := some ⟨.directed, source, code, payload⟩, turnaround := true } }

/-- What is seen of the next state; nothing of a stop. -/
def seen {α : Type} (o : Machine.Step) (f : State → α) : Option α :=
  match o with
  | .next t => some (f t)
  | .fault _ => none
  | .refused _ => none

/-- The reply that a row places. -/
def reply (t : State) : Option (Byte × List Byte) := t.port.reply.map (fun r => (r.code, r.payload))

/-- A job of P0 on reference A, started at 53,000. -/
def pointJob : Job :=
  { record := .point 0, input := .sensor 2, excitation := .dc, span := 4096, count := some 40960, start := 53000, due := 53000 }

/-- A job of reference A, started at 53,000. -/
def refJob : Job :=
  { record := .ref 0, input := .reference 0, excitation := .dc, span := 4096, count := none, start := 53000, due := 53000 }

/-- The zone while P0 is the current job. -/
def zoneP0 (c : ConverterState) : State := { withJob c zone with queue := [⟨.ref 0, 650010, false⟩] }

/-- The zone while reference A is the current job. -/
def zoneA (c : ConverterState) : State :=
  { withRefA { refA with state := .calibrating, prior := some .valid } (withJob c zone) with
    queue := [⟨.point 0, 53000, false⟩] }

/-! ### One step of each row -/

/-- Section 1.11 event 1: DEFINE_POINT binds D1, with its SAFE level pending. -/
theorem test_definePoint : seen (exec .definePoint (asking 3 0x10
    ([0] ++ be16 1201 ++ [2, 0] ++ be16 100 ++ [3, 4] ++ be16 18000 ++ be16 22000 ++ be16 500 ++ [1, 1])
    { State.reset with refs := State.reset.refs.set 0 (some { refA with state := .uncal, count := none, users := 0, liveUsers := 0 })
                       channels := State.reset.channels.set 1 { d1 with binding := none } }))
    (fun t => (t.points[0], t.tagMap[0], t.refs[0].map RefRecord.users, t.channels[1].binding, t.channels[1].pendingDuty,
      reply t)) =
    some (some { p0 with state := .dormant, lastValue := none, quality := .none, alarm := .unknown, resultTime := none,
                         deadline := none }, some 1201, some 1, some 0, some 200, some (0, [0])) := by decide +kernel

/-- Section 1.11 event 3: a tag that the map holds is refused with TAG_TAKEN, 0x17. -/
theorem test_definePoint_tagTaken : seen (exec .definePoint (asking 3 0x10
    ([255] ++ be16 1201 ++ [2, 0] ++ be16 100 ++ [3, 4] ++ be16 18000 ++ be16 22000 ++ be16 500 ++ [1, 255]) zone))
    (fun t => (t.points[2], reply t)) = some (none, some (0x17, [])) := by decide +kernel

/-- Section 6.8 event 14: a new band is stored, and the alarm state stays. -/
theorem test_amendPoint : seen (exec .amendPoint (asking 3 0x11
    ([0] ++ be16 0x1C0 ++ be16 0 ++ [0, 0] ++ be16 0 ++ [0, 0] ++ be16 17000 ++ be16 17400 ++ be16 100 ++ [0, 0]) zone))
    (fun t => (t.points[0], t.channels, reply t)) =
    some (some { p0 with bandLow := 17000, bandHigh := 17400, hysteresis := 100 }, zone.channels, some (0, [])) := by
  decide +kernel

/-- Section 1.11 event 6: START_POINT at 50,005, deadline 70,005. -/
theorem test_startPoint : seen (exec .startPoint (asking 3 0x12 [1] { zone with clock := 50005 }))
    (fun t => (t.points[1], t.queue, t.refs[0].map RefRecord.liveUsers, reply t)) =
    some (some { p1 with state := .live, deadline := some 70005 },
      [⟨.point 1, 50005, true⟩, ⟨.point 0, 53000, false⟩, ⟨.ref 0, 650010, false⟩], some 2, some (0, [])) := by decide +kernel

/-- STOP_POINT of the current job aborts it, and the last live user takes the reference's entry with it (R18). -/
theorem test_stopPoint : seen (exec .stopPoint (asking 3 0x13 [0] (zoneP0 (.sensorPhase pointJob))))
    (fun t => (t.points[0], t.converter.state, t.queue, t.channels[1].pendingDuty, reply t)) =
    some (some { p0 with state := .dormant, alarm := .unknown, deadline := none }, .idle, [], some 200, some (0, [])) := by
  decide +kernel

/-- RETIRE_POINT empties the slot and asks its channel for the manual duty (R20, R147). -/
theorem test_retirePoint : seen (exec .retirePoint (asking 15 0x14 [0] zone))
    (fun t => (t.points[0], t.tagMap[0], t.queue, t.channels[1].binding, t.channels[1].pendingDuty, reply t)) =
    some (none, none, [], none, some 50, some (0, [])) := by decide +kernel

/-- READ_POINT: bytes 20 to 25 and the age, 50, of Table 10-7. -/
theorem test_readPoint : seen (exec .readPoint (asking 9 0x15 [0] zone))
    (fun t => (reply t).map (fun r => (r.1, slice r.2 18 25, slice r.2 43 44))) =
    some (some (0, [1, 0x0F, 1, 0x4F, 0xFE, 1, 1, 0], [0, 50])) := by decide +kernel

theorem test_findTag : seen (exec .findTag (asking 9 0x16 (be16 1202) zone)) reply = some (some (0, [1])) := by decide +kernel

theorem test_findTag_notFound : seen (exec .findTag (asking 9 0x16 [0, 0] zone)) reply = some (some (0x16, [])) := by
  decide +kernel

theorem test_listPoints : seen (exec .listPoints (asking 9 0x17 [3, 16] zone)) reply = some (some (0, [2, 0, 1])) := by
  decide +kernel

/-- Section 2.7 event 1: the offer expires at 130,000. -/
theorem test_offerPoint : seen (exec .offerPoint (asking 3 0x20 [0, 5, 30] { zone with clock := 100000 }))
    (fun t => (t.points[0].map PointRecord.offer, reply t)) = some (some (some ⟨5, 130000⟩), some (0, be32 130000)) := by
  decide +kernel

theorem test_withdrawOffer : seen (exec .withdrawOffer (asking 3 0x21 [0] (withP0 { p0 with offer := some ⟨5, 130000⟩ } zone)))
    (fun t => (t.points[0], reply t)) = some (some p0, some (0, [])) := by decide +kernel

/-- Section 2.7 event 2: the closed reference of another owner, NOT_SHARED, 0x21. -/
theorem test_takePoint_notShared :
    seen (exec .takePoint (asking 5 0x22 [0] (withP0 { p0 with offer := some ⟨5, 130000⟩ } zone)))
    (fun t => (t.points[0].map PointRecord.owner, reply t)) = some (some 3, some (0x21, [])) := by decide +kernel

/-- Section 2.7 event 8: the point and D1 move to 5. -/
theorem test_takePoint : seen (exec .takePoint (asking 5 0x22 [0]
    (withRefA { refA with isOpen := true } (withP0 { p0 with offer := some ⟨5, 190200⟩ } zone))))
    (fun t => (t.points[0], t.channels[1].owner, reply t)) = some (some { p0 with owner := 5 }, 5, some (0, [])) := by
  decide +kernel

theorem test_assignOwner : seen (exec .assignOwner (asking 15 0x23 [0, 15] zone))
    (fun t => (t.points[0], t.channels[1].owner, reply t)) = some (some { p0 with owner := 15 }, 15, some (0, [])) := by
  decide +kernel

theorem test_defineRef : seen (exec .defineRef (asking 4 0x30 ([1, 0, 1] ++ be16 2048 ++ be16 900) zone))
    (fun t => (t.refs[1], reply t)) =
    some (some { refA with state := .uncal, owner := 4, excitation := .alternating, span := 2048, recal := 900, usedRecal := 900, count := none,
                           calTime := none, users := 0, liveUsers := 0 }, some (0, [])) := by decide +kernel

/-- Section 2.7 event 10: a reference that another owner's point uses cannot be closed, IN_USE, 0x1A. -/
theorem test_amendRef_inUse : seen (exec .amendRef (asking 3 0x31 [0, 1, 0, 0, 0, 0, 0, 0]
    (withRefA { refA with isOpen := true } (withP0 { p0 with owner := 5 } zone))))
    (fun t => (t.refs[0].map RefRecord.isOpen, reply t)) = some (some true, some (0x1A, [])) := by decide +kernel

/-- Section 2.7 event 4: opening a reference makes no test. -/
theorem test_amendRef_opens : seen (exec .amendRef (asking 3 0x31 [0, 1, 1, 0, 0, 0, 0, 0] zone))
    (fun t => (t.refs[0], reply t)) = some (some { refA with isOpen := true }, some (0, [])) := by decide +kernel

/-- An amended interval is stored, and the due time of the first live user is still that of the used one (R55, Table 5-3). -/
theorem test_amendRef_interval : seen (exec .amendRef (asking 3 0x31 ([0, 8, 0, 0, 0, 0] ++ be16 900)
    { zone with refs := State.reset.refs.set 0 (some { refA with liveUsers := 0 }) }))
    (fun t => (t.refs[0].map RefRecord.recal, t.refs[0].map (refDue · 52500), reply t)) =
    some (some 900, some 650010, some (0, [])) := by decide +kernel

/-- The next successful calibration uses it (R55, R58). -/
theorem test_calibration_takes_interval : calibratedRef { refA with recal := 900 } 40960 53010 =
    { refA with recal := 900, usedRecal := 900, calTime := some 53010 } := by decide

/-- CALIBRATE_REF moves the entry to now, marked, and answers ACCEPTED (R56). -/
theorem test_calibrateRef : seen (exec .calibrateRef (asking 3 0x32 [0] zone)) (fun t => (t.refs[0], t.queue, reply t)) =
    some (some { refA with request := true }, [⟨.ref 0, 52500, true⟩, ⟨.point 0, 53000, false⟩], some (1, [])) := by
  decide +kernel

/-- READ_REF: presence bits, count and entry due time of Table 10-8. -/
theorem test_readRef : seen (exec .readRef (asking 9 0x33 [0] zone))
    (fun t => (reply t).map (fun r => (r.1, slice r.2 10 18, slice r.2 26 31))) =
    some (some (0, [0x13, 0, 0, 0xA0, 0, 0, 0, 0xC3, 0x5A], [2, 1, 0, 0x09, 0xEB, 0x1A])) := by decide +kernel

theorem test_retireRef : seen (exec .retireRef (asking 3 0x34 [0] { zone with
    points := State.reset.points, refs := State.reset.refs.set 0 (some { refA with users := 0, liveUsers := 0 }), queue := [] }))
    (fun t => (t.refs[0], reply t)) = some (none, some (0, [])) := by decide +kernel

theorem test_measureNow : seen (exec .measureNow (asking 3 0x40 [0] zone)) (fun t => (t.queue, reply t)) =
    some ([⟨.point 0, 52500, true⟩, ⟨.ref 0, 650010, false⟩], some (0, [])) := by decide +kernel

theorem test_measureOwned : seen (exec .measureOwned (asking 3 0x41 [] zone)) (fun t => (t.queue, reply t)) =
    some ([⟨.point 0, 52500, true⟩, ⟨.ref 0, 650010, false⟩], some (0, [1])) := by decide +kernel

theorem test_configureDrive : seen (exec .configureDrive (asking 7 0x50 ([5, 0, 0] ++ be16 1000 ++ be16 250 ++ be16 0 ++
    be16 900 ++ be16 400 ++ be16 100) zone))
    (fun t => (t.channels[5], reply t)) = some (
      { owner := 7, enabled := false, polarity := .activeHigh, mode := .own, activePeriod := 1000, activeDuty := 0,
        pendingPeriod := none, pendingDuty := none, levels := ⟨250, 0, 900, 400⟩, manualDuty := 100, binding := none,
        counter := 0 }, some (0, [])) := by decide +kernel

/-- Section 7.11 event 1: a changed level of the bound point's alarm state is pending. -/
theorem test_setDriveLevels : seen (exec .setDriveLevels (asking 3 0x51 ([1] ++ be16 350 ++ be16 0 ++ be16 950 ++ be16 450)
    zone)) (fun t => (t.channels[1], reply t)) =
    some ({ d1 with levels := ⟨350, 0, 950, 450⟩, pendingDuty := some 350 }, some (0, [])) := by decide +kernel

/-- Section 7.11 event 3. -/
theorem test_setDrivePeriod : seen (exec .setDrivePeriod (asking 3 0x52 ([1] ++ be16 2000) zone))
    (fun t => (t.channels[1], reply t)) = some ({ d1 with pendingPeriod := some 2000 }, some (0, [])) := by decide +kernel

/-- Section 7.11 event 10: a bound channel stores its manual duty only. -/
theorem test_setManualDuty : seen (exec .setManualDuty (asking 3 0x53 ([1] ++ be16 600) zone))
    (fun t => (t.channels[1], reply t)) = some ({ d1 with manualDuty := 600 }, some (0, [])) := by decide +kernel

/-- Section 7.11 event 9: the duty is taken from the source, and pending fields are discarded. -/
theorem test_enableDrive : seen (exec .enableDrive (asking 3 0x54 [1]
    (withP0 { p0 with alarm := .fault, quality := .open } (withD1 { d1 with enabled := false, pendingDuty := some 200 } zone))))
    (fun t => (t.channels[1], reply t)) = some ({ d1 with activeDuty := 200 }, some (0, [])) := by decide +kernel

/-- Section 7.11 event 5. -/
theorem test_disableDrive : seen (exec .disableDrive (asking 3 0x55 [1]
    (withD1 { d1 with pendingPeriod := some 2000, pendingDuty := some 950 } zone)))
    (fun t => (t.channels[1], reply t)) = some ({ d1 with enabled := false }, some (0, [])) := by decide +kernel

theorem test_releaseDrive : seen (exec .releaseDrive (asking 3 0x56 [1]
    (withD1 { d1 with enabled := false, binding := none } zone)))
    (fun t => (t.channels[1].owner, reply t)) = some (0, some (0, [])) := by decide +kernel

/-- READ_DRIVE: presence bits and called-for duty of Table 10-9. -/
theorem test_readDrive : seen (exec .readDrive (asking 9 0x57 [1] (withD1 { d1 with pendingDuty := some 800 } zone)))
    (fun t => (reply t).map (fun r => (r.1, slice r.2 1 14, slice r.2 23 27))) =
    some (some (0, [1, 3, 1, 0, 0, 0x03, 0xE8, 0x01, 0x2C, 6, 0, 0, 0x03, 0x20], [0, 50, 0, 0x01, 0x2C])) := by decide +kernel

theorem test_locatePoint : seen (exec .locatePoint (asking 9 0x60 [1, 10] zone))
    (fun t => (t.points[1].map PointRecord.locate, reply t)) = some (some (some 62500), some (0, 1 :: be32 62500)) := by
  decide +kernel

/-- Section 6.8 event 3: the owner's notice is listed and removed. -/
theorem test_readNotices : seen (exec .readNotices (asking 3 0x70 []
    { zone with noticePoints := zone.noticePoints.set 0 true, noticeRefs := zone.noticeRefs.set 0 true }))
    (fun t => (t.noticePoints[0], t.noticeRefs[0], reply t)) = some (false, false, some (0, [2, 0, 48])) := by decide +kernel

/-- READ_STATUS right after reset: the part code 17FCh, revision 3, the drop address 32, TABLE_CLEARED and the default settings
(Tables 9-3, 9-4, 10-10). -/
theorem test_readStatus : seen (exec .readStatus (asking 9 0x71 [] State.reset)) reply = some (some (0,
    [0x17, 0xFC, 3, 32, 0, 0, 0, 0, 0, 0, 0, 0, 0, 0, 0, 0, 0, 0, 4, 0, 0, 0, 2, 1, 1, 0])) := by decide +kernel

theorem test_clearCauses : seen (exec .clearCauses (asking 15 0x72 [] State.reset)) (fun t => (t.causes, t.alertLow, reply t)) =
    some (⟨false, false, false⟩, false, some (0, [])) := by decide +kernel

theorem test_setDevice : seen (exec .setDevice (asking 15 0x73 [9, 7, 0, 0, 1] zone)) (fun t => (t.settings, reply t)) =
    some ({ floor := 7, alertEnable := true, matrixEnable := true, lampTest := true }, some (0, [])) := by decide +kernel

theorem test_clearTables : seen (exec .clearTables (asking 15 0x74 [] zone))
    (fun t => (t.points[0], t.refs[0], t.queue, t.channels[1], t.causes.tableCleared, t.clock, reply t)) =
    some (none, none, [], DriveChannel.reset, true, 52500, some (0, [])) := by decide +kernel

theorem test_unknownCommand : seen (exec .unknownCommand (asking 3 0x75 [1] zone)) reply = some (some (0x10, [])) := by
  decide +kernel

theorem test_hardwareReset : seen (exec .hardwareReset zone) (fun t => (t.inReset, t.points, t.queue)) =
    some (true, State.reset.points, []) := by decide +kernel

/-- Section 10.8: strapped for drop address 33. -/
theorem test_resetRelease : seen (exec (.resetRelease 1 2) { zone with inReset := true }) (fun t => (t.dropAddress, t.inReset)) =
    some (33, false) := by decide +kernel

theorem test_scheduleClockStep : seen (exec .scheduleClockStep { zone with clock := 4294967295 }) State.clock = some 0 := by
  decide +kernel

theorem test_fallingDue : seen (exec .fallingDue { zone with clock := 53000 }) State.queue =
    some [⟨.point 0, 53000, true⟩, ⟨.ref 0, 650010, false⟩] := by decide +kernel

/-- Section 2.7 event 3. -/
theorem test_offerExpiry : seen (exec (.offerExpiry 0)
    { withP0 { p0 with offer := some ⟨5, 130000⟩ } zone with clock := 130000 })
    (fun t => (t.points[0], t.noticePoints[0])) = some (some p0, true) := by decide +kernel

theorem test_locateExpiry : seen (exec (.locateExpiry 0) (withP0 { p0 with locate := some 52500 } zone))
    (fun t => (t.points[0], t.noticePoints[0])) = some (some p0, false) := by decide +kernel

/-- Section 6.8 event 12. -/
theorem test_freshnessDeadlineExpiry : seen (exec (.freshnessDeadlineExpiry 0) { zone with clock := 55000 })
    (fun t => (t.points[0], t.noticePoints[0], t.channels[1].pendingDuty)) =
    some (some { p0 with quality := .stale, alarm := .fault, deadline := none }, true, some 200) := by decide +kernel

/-- Section 4.7 event 1, for a point on a VALID reference: the snapshot of R65. -/
theorem test_dispatch : seen (exec .dispatch { zone with clock := 53000, queue := [⟨.point 0, 53000, true⟩, ⟨.ref 0, 650010, false⟩] })
    (fun t => (t.converter.state, t.queue)) = some (.supplyCheck pointJob, [⟨.ref 0, 650010, false⟩]) := by decide +kernel

/-- Section 5.9 event 6: a point on a FAULTED reference receives REF_FAULT and is re-queued. -/
theorem test_dispatch_refFault : seen (exec .dispatch { withRefA { refA with state := .faulted, count := none } zone with
    clock := 53000, queue := [⟨.point 0, 53000, true⟩, ⟨.ref 0, 54000, false⟩] })
    (fun t => (t.converter.state, t.queue, t.points[0])) =
    some (.idle, [⟨.ref 0, 54000, false⟩, ⟨.point 0, 54000, false⟩],
      some { p0 with quality := .refFault, faults := 1, alarm := .fault }) := by decide +kernel

/-- The counters of R75: 262,144 - 4,096 and 0. -/
theorem test_supplyCheckLatch : seen (exec (.supplyCheckLatch 2800) (zoneA (.supplyCheck refJob))) State.converter =
    some { state := .referencePhase refJob, measurement := 258048, timeBase := 0 } := by decide +kernel

/-- Below the floor of 2.80 V the job returns marked with its old due time, and the hold begins. -/
theorem test_supplyCheckLatch_low : seen (exec (.supplyCheckLatch 2799) { zoneP0 (.supplyCheck pointJob) with clock := 53001 })
    (fun t => (t.converter.state, t.queue, t.causes.supplyLow)) =
    some (.hold, [⟨.point 0, 53000, true⟩, ⟨.ref 0, 650010, false⟩], true) := by decide +kernel

theorem test_holdExpiry : seen (exec .holdExpiry (withJob .hold zone)) (fun t => t.converter.state) = some .idle := by
  decide +kernel

/-- Section 1.11 event 7: 4,096 cycles at 400 kHz take 40,960 counts. -/
theorem test_referenceCountComplete : seen (exec (.referenceCountComplete 400000000000)
    { zoneA (.referencePhase refJob) with clock := 53010 }) (fun t => (t.refs[0], t.queue, t.converter.state)) =
    some (some { refA with calTime := some 53010 }, [⟨.point 0, 53000, false⟩, ⟨.ref 0, 653010, false⟩], .idle) := by
  decide +kernel

/-- Section 4.7 events 3 and 6, under ALTERNATING: 2,048 pairs at 400 kHz take 40,960 counts, and in these 320 kHz completes 1,638
pairs. -/
theorem test_alternatingPairs : countedTime .alternating 2048 400000000000 = 40960 ∧
    windowCount .alternating 40960 320000000000 = 1638 ∧ (List.range 4).map (runsForward .alternating) = [true, false, true, false] ∧
    (withJob (.sensorPhase { pointJob with excitation := .alternating }) zone).converter.currentForward 1 = some false := by
  decide +kernel

/-- Section 5.9 event 3: an open reference stops the oscillator. -/
theorem test_referenceTimeBaseLimit : seen (exec (.referenceTimeBaseLimit 0)
    { zoneA (.referencePhase refJob) with clock := 54049 })
    (fun t => (t.refs[0], t.queue, t.noticeRefs[0], t.converter)) =
    some (some { refA with state := .faulted, count := none, lastFault := some .refOpen, faultTime := some 54049 },
      [⟨.point 0, 53000, false⟩, ⟨.ref 0, 55049, false⟩], true, ⟨.idle, 0, 0⟩) := by decide +kernel

/-- The check figure of Table 4-4: N 4,096 and M 3,277, of 320.1 kHz for 40,960 counts, give 20,478 GOOD. -/
theorem test_sensorWindowEnd : seen (exec (.sensorWindowEnd 320100000000) { zoneP0 (.sensorPhase pointJob) with clock := 53010 })
    (fun t => (t.points[0], t.queue, t.converter.state)) =
    some (some { p0 with resultTime := some 53010, deadline := some 56010 },
      [⟨.point 0, 54000, false⟩, ⟨.ref 0, 650010, false⟩], .idle) := by decide +kernel

/-- Fewer than 16 cycles are OPEN (R81): 1.5 kHz completes 15. -/
theorem test_sensorWindowEnd_open : seen (exec (.sensorWindowEnd 1500000000) { zoneP0 (.sensorPhase pointJob) with clock := 53010 })
    (fun t => (t.points[0], t.noticePoints[0], t.channels[1].pendingDuty)) =
    some (some { p0 with quality := .open, faults := 1, alarm := .fault }, true, some 200) := by decide +kernel

/-- SHORT at the fault limit holds the point (R80, R120): 26 MHz passes 262,143 cycles within 40,960 counts. -/
theorem test_sensorCountOverflow : seen (exec (.sensorCountOverflow 26000000000000)
    (withP0 { p0 with faults := 3, alarm := .fault, quality := .open } (zoneP0 (.sensorPhase pointJob))))
    (fun t => (t.points[0], t.queue, t.refs[0].map RefRecord.liveUsers)) =
    some (some { p0 with state := .held, quality := .short, faults := 4, alarm := .fault, deadline := none }, [], some 0) := by
  decide +kernel

/-- Section 7.11 event 2. -/
theorem test_periodBoundary : seen (exec (.periodBoundary 1) (withD1 { d1 with pendingDuty := some 350, counter := 300 } zone))
    (fun t => t.channels[1]) = some { d1 with activeDuty := 350 } := by decide +kernel

theorem test_driveDutyCount : seen (exec (.driveDutyCount 1) zone) (fun t => (zone.channels[1].pinHigh, t.channels[1].pinHigh)) =
    some (true, false) := by decide +kernel

/-- P0 LIVE and NORMAL is full, P1 DORMANT is dim, and the other cells of ROW0 are off (Table 8-2). -/
theorem test_rowSlotStart : seen (exec .rowSlotStart zone) (fun t => (t.matrix.onTimes.toList, t.rowHigh 0)) =
    some ([.full, .dim, .off, .off, .off, .off, .off, .off], true) := by decide +kernel

theorem test_cellOnTimeEnd : seen (exec (.cellOnTimeEnd 1) { zone with
    matrix := { zone.matrix with stage := .lit, onTimes := zone.matrix.onTimes.set 1 .dim, columns := Vector.replicate 8 true } })
    (fun t => (t.columnLow 0, t.columnLow 1)) = some (true, false) := by decide +kernel

theorem test_blankingGap : seen (exec .blankingGap { zone with
    matrix := { zone.matrix with stage := .lit, columns := Vector.replicate 8 true } })
    (fun t => (t.rowHigh 0, t.columnLow 0, t.matrix.stage)) = some (false, false, .blanking) := by decide +kernel

/-- Section 10.8 event 1. -/
theorem test_addressCharacter : seen (exec (.addressCharacter 33) { zone with addrStrap := 1 }) (fun t => t.port.rx) =
    some (.collecting .directed) := by decide +kernel

/-- Section 10.8 event 7: the waiting reply is dropped as PREEMPTED. -/
theorem test_addressCharacter_preempts : seen (exec (.addressCharacter 34) { zone with
    port := { zone.port with turnaround := true, reply := some ⟨5, 0, []⟩, discardCount := 2, lastDiscard := some .check } })
    (fun t => t.port) = some { zone.port with discardCount := 3, lastDiscard := some .preempted } := by decide +kernel

theorem test_dataCharacter : seen (exec (.dataCharacter 5) { zone with port := { zone.port with rx := .collecting .directed } })
    (fun t => t.port.buffer) = some [5] := by decide +kernel

theorem test_stopBitError : seen (exec (.stopBitError 0 true) { zone with port := { zone.port with rx := .collecting .directed } })
    (fun t => (t.port.rx, t.port.discardCount, t.port.lastDiscard)) = some (.discarding, 1, some .framing) := by decide +kernel

/-- Section 10.8 event 3: TAKE_POINT of slot 0 from controller 5, with the check of R180. -/
theorem test_idleGap : seen (exec .idleGap { zone with port := { zone.port with
    rx := .collecting .directed, buffer := [5, 0x22, 1, 0] ++ be16 (frameCheck [5, 0x22, 1, 0]) } })
    (fun t => (t.port.command, t.port.turnaround, t.port.rx)) =
    some (some ⟨.directed, 5, 0x22, [0]⟩, true, .addressWait) := by decide +kernel

theorem test_lineBreak : seen (exec .lineBreak { zone with port := { zone.port with rx := .collecting .directed, buffer := [5] } })
    (fun t => (t.port.rx, t.port.buffer, t.port.lastDiscard)) = some (.addressWait, [], some .lineBreak) := by decide +kernel

theorem test_lineRise : seen (exec .lineRise { zone with port := { zone.port with
    rx := .collecting .directed, buffer := [5], lowRun := .allLow } })
    (fun t => (t.port.rx, t.port.lastDiscard)) = some (.discarding, some .framing) := by decide +kernel

/-- A reply without a payload is sent as six characters, the first with its mark bit set (Table 10-4). -/
theorem test_turnaroundEnd : seen (exec .turnaroundEnd { zone with
    port := { zone.port with turnaround := true, reply := some ⟨5, 0x20, []⟩ } })
    (fun t => ((t.port.sending.map LineCharacter.data).take 4, t.port.sending.length, t.lineTX, t.lineDE)) =
    some ([5, 32, 0x20, 0], 6, some ⟨5, true⟩, true) := by decide +kernel

theorem test_characterEcho : seen (exec (.characterEcho 6 true true) { zone with
    port := { zone.port with sending := [⟨5, true⟩, ⟨32, false⟩], reply := some ⟨5, 0x20, []⟩ } })
    (fun t => (t.port.reply, t.port.sending, t.causes.lineContention)) = some (none, [], true) := by decide +kernel

/-- The frame check of "1" to "9" (R180). -/
theorem test_frameCheck : frameCheck [0x31, 0x32, 0x33, 0x34, 0x35, 0x36, 0x37, 0x38, 0x39] = 0x29B1 := by decide +kernel

/-! ### States and operands that meet the hypotheses of the statements

One theorem for each obligation that has hypotheses; a clause with a range is met at the ends of its range. -/

/-- The zone at 53,000 ms with P0's entry marked and a DISPATCH row waiting. -/
def ready : State :=
  { zone with clock := 53000, queue := [⟨.point 0, 53000, true⟩, ⟨.ref 0, 650010, false⟩], pending := [.dispatch] }

/-- The hypothesis on the frame of every statement about a command is met, whatever the source, the code and the payload. -/
theorem zone_asks (source code : Byte) (payload : List Byte) :
    (asking source code payload zone).holds .directed source code payload := ⟨rfl, rfl⟩

/-- A step of `ready` answers a next state, so no invariant's statement is empty. -/
theorem ready_steps : ∃ t, step ready = .next t := ⟨_, rfl⟩

theorem witness_StepTakesTheFrontRow : zone.pending = [] := by decide +kernel

theorem witness_HardwareResetHoldsThePartUntilItsRelease :
    ({ zone with inReset := true } : State).inReset = true ∧ Instr.fallingDue ≠ .hardwareReset ∧
    (∀ addr rate, Instr.fallingDue ≠ .resetRelease addr rate) := by
  refine ⟨rfl, by decide, ?_⟩
  intro addr rate h
  cases h

theorem witness_TagsAgreeAfterEveryStep : ready.TagsAgree := by
  unfold State.TagsAgree; decide +kernel

theorem witness_ScheduleSoundAfterEveryStep : ready.ScheduleSound := by
  unfold State.ScheduleSound; decide +kernel

theorem witness_CountsAgreeAfterEveryStep : ready.ScheduleSound ∧ ready.CountsAgree :=
  ⟨witness_ScheduleSoundAfterEveryStep, by unfold State.CountsAgree; decide +kernel⟩

theorem witness_MarkedEntriesStayFirst : ready.MarkedFirst := by
  unfold State.MarkedFirst; decide +kernel

theorem witness_BindingsAgreeAfterEveryStep : ready.SourceSound ∧ ready.PointsSound ∧ ready.BindingsAgree := by
  unfold State.SourceSound State.PointsSound State.BindingsAgree; decide +kernel

theorem witness_NoticesBackedAfterEveryStep : ready.NoticesBacked := by
  unfold State.NoticesBacked; decide +kernel

theorem witness_PointsSoundAfterEveryStep : ready.ScheduleSound ∧ ready.SourceSound ∧ ready.PointsSound :=
  ⟨witness_ScheduleSoundAfterEveryStep, witness_BindingsAgreeAfterEveryStep.1, witness_BindingsAgreeAfterEveryStep.2.1⟩

theorem witness_RefsSoundAfterEveryStep : ready.ScheduleSound ∧ ready.RefsSound :=
  ⟨witness_ScheduleSoundAfterEveryStep, by unfold State.RefsSound; decide +kernel⟩

theorem witness_SharingSoundAfterEveryStep : ready.CountsAgree ∧ ready.SharingSound :=
  ⟨witness_CountsAgreeAfterEveryStep.2, by unfold State.SharingSound; decide +kernel⟩

theorem witness_ChannelsSoundAfterEveryStep : ready.ChannelsSound := by
  unfold State.ChannelsSound; decide +kernel

theorem witness_LinePortSoundAfterEveryStep : ready.port.sound = true ∧ ready.SourceSound :=
  ⟨by decide +kernel, witness_BindingsAgreeAfterEveryStep.1⟩

theorem witness_EnabledChannelChangesOnlyAtItsBoundary : ∃ t, step ready = .next t ∧ ready.channels[1].enabled = true ∧
    t.channels[1].enabled = true ∧ ready.pending.head? ≠ some (.periodBoundary 1) :=
  ⟨_, rfl, by decide +kernel, by decide +kernel, by decide +kernel⟩

/-- The first unmarked entry at its due time, and 1 ms before it; a queue with marked entries only; a row that leaves the clock. -/
theorem witness_TheClockStepsComparesAndMakesEntriesDue : Instr.fallingDue ≠ .scheduleClockStep ∧
    seen (exec .fallingDue zone) State.clock = some 52500 ∧ zone.inReset = false ∧
    zone.queue = [] ++ ⟨.point 0, 53000, false⟩ :: [⟨.ref 0, 650010, false⟩] ∧
    atOrBefore (53000 : Clock) 53000 = true ∧ atOrBefore (53000 : Clock) 52999 = false ∧
    (∀ x ∈ ({ zone with queue := [⟨.ref 0, 5, true⟩] } : State).queue, x.mark = true) := by decide +kernel

/-- A record with an entry and one without; A valid at its recalibration time and after it, faulted at the end of its wait and
after it, and uncalibrated. -/
theorem witness_QueueRequestsAndDueTimesFollowTheirTables :
    entryIn zone.queue (.point 0) = some ⟨.point 0, 53000, false⟩ ∧ entryIn zone.queue (.point 1) = none ∧
    Record.point 1 ≠ .point 0 ∧ refA.state = .valid ∧ refA.calTime = some 50010 ∧
    (atOrBefore (650010 : Clock) (50010 + refA.usedRecal.setWidth 32 * 1000) = true ∧ atOrBefore (50010 : Clock) 650010 = true) ∧
    ¬ (atOrBefore (650011 : Clock) (50010 + refA.usedRecal.setWidth 32 * 1000) = true ∧ atOrBefore (50010 : Clock) 650011 = true) ∧
    (atOrBefore (6000 : Clock) (5000 + 1000) = true ∧ atOrBefore (5000 : Clock) 6000 = true) ∧
    ¬ (atOrBefore (6001 : Clock) (5000 + 1000) = true ∧ atOrBefore (5000 : Clock) 6001 = true) := by decide +kernel

/-- P30 of section 6.8 (Table 6-1): 17,999 is LOW, 18,000 and 22,000 are NORMAL, 22,001 is HIGH; from LOW 18,599 stays and 18,600
leaves; from HIGH 21,401 stays and 21,400 leaves; a band with the largest hysteresis fits. -/
theorem witness_JudgementFollowsBandAndHysteresis :
    let r (a : Alarm) : PointRecord := { p0 with alarm := a, hysteresis := 600 }
    (judge (r .unknown) 17999, judge (r .normal) 18000, judge (r .fault) 22000, judge (r .normal) 22001) =
      (.low, .normal, .normal, .high) ∧
    (judge (r .low) 18599, judge (r .low) 18600, judge (r .low) 22001) = (.low, .normal, .high) ∧
    (judge (r .high) 21401, judge (r .high) 21400, judge (r .high) 17999) = (.high, .normal, .low) ∧
    ({ p0 with hysteresis := 2000 } : PointRecord).bandFits ∧
    (let s := zoneP0 (.sensorPhase pointJob)
     s.inReset = false ∧ s.converter.state = .sensorPhase pointJob ∧ pointJob.record = .point 0 ∧ pointJob.count = some 40960 ∧
     s.points[0] = some p0 ∧ windowCount pointJob.excitation 40960 1562500000 = 16 ∧
     windowCount pointJob.excitation 40960 25600000000000 = 262144 ∧
     windowCount pointJob.excitation 40960 25599999999999 = 262143) := by
  unfold PointRecord.bandFits; decide +kernel

theorem witness_PatternsHaveTheirBrightness : (499 : Clock).toNat % 1000 ≤ 499 ∧ 500 ≤ (500 : Clock).toNat % 1000 ∧
    (124 : Clock).toNat % 250 ≤ 124 ∧ 125 ≤ (125 : Clock).toNat % 250 := by decide +kernel

/-- The matrix off, the lamp test, a vacant cell, a locate, and each state of a point. -/
theorem witness_RowSlotsShowThePoints : zone.inReset = false ∧ zone.settings.matrixEnable = true ∧
    zone.settings.lampTest = false ∧ zone.points[0] = some p0 ∧ zone.points[1] = some p1 ∧ zone.points[47] = none ∧
    ({ p0 with locate := some 60000 } : PointRecord).locate.isSome = true ∧ p0.locate = none ∧ p1.state = .dormant ∧
    p0.state = .live ∧ p0.alarm = .normal ∧
    (let lit : State := { zone with matrix := { zone.matrix with stage := .lit, onTimes := Vector.replicate 8 .dim } }
     lit.inReset = false ∧ lit.matrix.stage = .lit ∧ lit.matrix.onTimes[7] = .dim) ∧
    seen (exec .rowSlotStart { zone with settings := ⟨2, true, false, true⟩ }) (fun t => t.matrix.onTimes[0]) = some .off ∧
    seen (exec .rowSlotStart { zone with settings := ⟨2, true, true, true⟩ }) (fun t => t.matrix.onTimes[7]) = some .full := by
  decide +kernel

/-- The zone with P2 and P3 of other states for the cells of ROW0. -/
theorem witness_RowSlotsShowTheStates :
    let more : State := { zone with points := ((zone.points.set 2 (some { p0 with state := .held, alarm := .fault, quality := .open })).set 3
      (some { p0 with alarm := .unknown })).set 4 (some { p0 with alarm := .fault, quality := .open }) }
    seen (exec .rowSlotStart (withP0 { p0 with alarm := .low } more)) (fun t => t.matrix.onTimes.toList) =
      some [.off, .dim, .dim, .off, .full, .off, .off, .off] ∧
    seen (exec .rowSlotStart (withP0 { p0 with locate := some 60000 } more)) (fun t => t.matrix.onTimes.toList) =
      some [.dim, .dim, .dim, .off, .full, .off, .off, .off] := by decide +kernel

/-- Slot 2 by its number, with D1 unbound, and by 255, with no binding. -/
theorem witness_DefinePointFillsAVacantSlot :
    let d : PointRecord := { p1 with tag := 1300, hysteresis := 2000, binding := some 1 }
    let s := asking 3 0x10 (slotByte 2 :: d.fields.bytes) (withP0 { p0 with binding := none } (withD1 { d1 with binding := none } zone))
    s.holds .directed 3 0x10 (slotByte 2 :: d.fields.bytes) ∧ s.points[2] = none ∧ s.refs[d.reference] = some refA ∧
    d.fieldsInRange ∧ d.bandFits ∧ (∀ q : Slot, s.tagMap[q] ≠ some d.tag) ∧
    (refA.owner = 3 ∨ refA.isOpen = true ∨ (3 : Byte) = 15) ∧
    (∀ c ∈ d.binding, s.channels[c].owner = 3 ∧ s.channels[c].mode = .own ∧
      (s.channels[c].binding = none ∨ s.channels[c].binding = some 2)) ∧
    (∀ q : Slot, q < 2 → s.points[q] ≠ none) := by
  unfold State.holds PointRecord.fieldsInRange PointRecord.bandFits; decide +kernel

/-- The fields of P1 under a tag that the map does not hold. -/
def newFields : PointFields := { p1.fields with tag := 1300 }

/-- A first failing check of each code: BAD_SLOT twice, SLOT_TAKEN, TABLE_FULL, NOT_FOUND, BAD_VALUE, BAD_BAND, TAG_TAKEN, NOT_SHARED,
and the binding test's NOT_OWNER, MODE_CONFLICT and IN_USE. -/
theorem witness_DefinePointIsRefused :
    let fails (s : State) (source slot : Byte) (g : PointFields) := firstFailing (definePointChecks s source slot g)
    fails zone 3 48 newFields 0x12 ∧ fails zone 3 2 { newFields with reference := 4 } 0x12 ∧ fails zone 3 0 newFields 0x13 ∧
    fails { zone with points := Vector.replicate 48 (some p0) } 3 255 newFields 0x15 ∧ fails zone 3 2 { newFields with reference := 1 } 0x16 ∧
    fails zone 3 255 { newFields with staleFactor := 16 } 0x1B ∧ fails zone 3 2 { newFields with hysteresis := 2001 } 0x1C ∧
    fails zone 3 2 { newFields with tag := 1201 } 0x17 ∧ fails zone 5 2 newFields 0x21 ∧ fails zone 3 2 { newFields with binding := 5 } 0x18 ∧
    fails (withD1 { d1 with mode := .follow } zone) 3 2 { newFields with binding := 1 } 0x1D ∧
    fails zone 3 255 { newFields with binding := 1 } 0x1A := by
  unfold definePointChecks bindingChecks State.chosen bindingInRange
  refine ⟨?_, ?_, ?_, ?_, ?_, ?_, ?_, ?_, ?_, ?_, ?_, ?_⟩ <;>
    (simp only [firstFailing, List.cons_append, List.nil_append]; decide +kernel)

/-- A first failing check of each code: BAD_SLOT, NOT_FOUND, NOT_OWNER, WRONG_STATE, BAD_VALUE of a field and of the mask, BAD_BAND,
TAG_TAKEN, NOT_SHARED, and the binding test's three. -/
theorem witness_AmendPointIsRefused :
    let s := { zone with refs := zone.refs.set 1 (some { refA with owner := 4 }) }
    let fails (s : State) (source : Byte) (mask : Half) (g : PointFields) := firstFailing (amendPointChecks s source 1 p1 mask g)
    fails s 3 4 { p1.fields with reference := 4 } 0x12 ∧ fails s 3 4 { p1.fields with reference := 2 } 0x16 ∧
    fails s 4 1 p1.fields 0x18 ∧ firstFailing (amendPointChecks s 3 0 p0 2 p0.fields) 0x19 ∧
    fails s 3 1 { p1.fields with tag := 0 } 0x1B ∧ fails s 3 2048 p1.fields 0x1B ∧
    fails s 3 256 { p1.fields with hysteresis := 2001 } 0x1C ∧ fails s 3 1 { p1.fields with tag := 1201 } 0x17 ∧
    fails s 3 4 { p1.fields with reference := 1 } 0x21 ∧ fails s 3 1024 { p1.fields with binding := 5 } 0x18 ∧
    fails (withD1 { d1 with mode := .follow } s) 3 1024 { p1.fields with binding := 1 } 0x1D ∧
    fails s 3 1024 { p1.fields with binding := 1 } 0x1A := by
  unfold amendPointChecks bindingChecks namesInRange bindingInRange State.referenceDefined amendedBandFits admitted
  refine ⟨?_, ?_, ?_, ?_, ?_, ?_, ?_, ?_, ?_, ?_, ?_, ?_⟩ <;>
    (simp only [firstFailing, List.cons_append, List.nil_append]; decide +kernel)

/-- Every field of a DORMANT point at once, and the band of a LIVE one. -/
theorem witness_AmendPointWritesThePresentFields :
    (let n : PointRecord := { p1 with
      tag := 1300, input := 15, interval := 65535, staleFactor := 15, faultLimit := 15, bandLow := 0, bandHigh := 65535,
      hysteresis := 32767, notify := true, binding := some 1 }
     let s := asking 3 0x11 (slotByte 1 :: (be16 2047 ++ n.fields.bytes))
      (withP0 { p0 with binding := none } (withD1 { d1 with binding := none } zone))
     s.holds .directed 3 0x11 (slotByte 1 :: (be16 2047 ++ n.fields.bytes)) ∧ s.points[1] = some p1 ∧
     (2047 : Half).toNat < 2048 ∧ amends 2047 n.fields p1 n ∧ s.refs[p1.reference] = some refA ∧
     s.refs[n.reference] = some refA ∧ admitted 3 p1.owner ∧ n.fieldsInRange ∧ n.bandFits ∧
     (∀ q : Slot, q ≠ 1 → s.tagMap[q] ≠ some n.tag) ∧ refA.owner = p1.owner ∧
     (∀ c ∈ n.binding, s.channels[c].owner = p1.owner ∧ s.channels[c].mode = .own ∧ s.channels[c].binding = none) ∧
     s.ownMode p1.binding) ∧
    (let n : PointRecord := { p0 with bandLow := 17000, bandHigh := 17400, hysteresis := 100 }
     p0.state = .live ∧ amends 0x1C0 n.fields p0 n ∧ n.bandFits ∧
     (0x1C0 : Half).getLsbD 1 = false ∧ (0x1C0 : Half).getLsbD 2 = false ∧ (0x1C0 : Half).getLsbD 3 = false ∧
     (0x1C0 : Half).getLsbD 4 = false ∧ (0x1C0 : Half).getLsbD 5 = false) := by
  unfold State.holds PointRecord.fieldsInRange PointRecord.bandFits amends admitted State.ownMode; decide +kernel

theorem witness_StartPointPutsAPointUnderMeasurement :
    (let s := asking 3 0x12 [slotByte 1] zone
     s.holds .directed 3 0x12 [slotByte 1] ∧ s.points[1] = some p1 ∧ s.refs[p1.reference] = some refA ∧
     admitted 3 p1.owner ∧ s.ownMode p1.binding ∧ p1.state ≠ .live) ∧
    (let s := asking 15 0x12 [slotByte 0] zone
     s.holds .directed 15 0x12 [slotByte 0] ∧ s.points[0] = some p0 ∧ s.refs[p0.reference] = some refA ∧
     admitted 15 p0.owner ∧ s.ownMode p0.binding ∧ p0.state = .live) := by
  unfold State.holds admitted State.ownMode; decide +kernel

/-- LIVE, HELD and DORMANT. -/
theorem witness_StopPointTakesAPointOutOfMeasurement :
    ∀ r ∈ [p0, { p0 with state := .held, alarm := .fault, quality := .open }, { p0 with state := .dormant, alarm := .unknown }],
      let s := asking 3 0x13 [slotByte 0] (withP0 r zone)
      s.holds .directed 3 0x13 [slotByte 0] ∧ s.points[0] = some r ∧ s.refs[r.reference] = some refA ∧ admitted 3 r.owner ∧
      s.ownMode r.binding := by
  unfold State.holds admitted State.ownMode; decide +kernel

theorem witness_RetirePointEmptiesItsSlot :
    let s := asking 15 0x14 [slotByte 0] zone
    s.holds .directed 15 0x14 [slotByte 0] ∧ s.points[0] = some p0 ∧ s.refs[p0.reference] = some refA ∧
    admitted 15 p0.owner ∧ s.ownMode p0.binding := by
  unfold State.holds admitted State.ownMode; decide +kernel

/-- A result time at the clock and 1 ms after it; a point without a result time. -/
theorem witness_ReadPointReplyFollowsItsTable :
    let s := asking 9 0x15 [slotByte 0] zone
    s.holds .directed 9 0x15 [slotByte 0] ∧ s.points[0] = some p0 ∧ p1.resultTime = none ∧ p0.resultTime = some 52000 ∧
    atOrBefore (52000 : Clock) 52000 = true ∧ atOrBefore (52000 : Clock) 51999 = false := by
  unfold State.holds; decide +kernel

/-- A tag that the map holds, one that it does not hold, tag 0, a payload of three bytes. -/
theorem witness_FindTagAnswersTheSlotOfATag :
    let s (payload : List Byte) := asking 9 0x16 payload zone
    (s (be16 1202)).holds .directed 9 0x16 (be16 1202) ∧ (s (be16 1202)).TagsAgree ∧ (s (be16 1202)).tagMap[1] = some 1202 ∧
    (s (be16 65535)).holds .directed 9 0x16 (be16 65535) ∧ (∀ p : Slot, (s (be16 65535)).tagMap[p] ≠ some 65535) ∧
    (s (be16 0)).holds .directed 9 0x16 (be16 0) ∧ (s (be16 0)).TagsAgree ∧ (s (be16 0)).PointsSound ∧
    (s [1, 2, 3]).holds .directed 9 0x16 [1, 2, 3] ∧ [1, 2, 3].length ≠ 2 := by
  unfold State.holds State.TagsAgree State.PointsSound; decide +kernel

theorem witness_ListPointsAnswersTheMatchingSlots :
    (∀ payload : List Byte, (asking 9 0x17 payload zone).holds .directed 9 0x17 payload) ∧
    ((15 : Byte).toNat ≤ 15 ∧ (16 : Byte).toNat ≤ 16) ∧ 15 < (16 : Byte).toNat ∧ 16 < (17 : Byte).toNat ∧
    ([15] : List Byte).length ≠ 2 :=
  ⟨fun _ => zone_asks _ _ _, by decide⟩

/-- Any number of seconds; a locate at its time and 1 ms before it. -/
theorem witness_LocatesAreSetCancelledAndExpire :
    (∀ seconds : Byte, (asking 9 0x60 [slotByte 0, seconds] zone).holds .directed 9 0x60 [slotByte 0, seconds]) ∧
    zone.points[0] = some p0 ∧ (1 ≤ (1 : Byte).toNat ∧ (60 : Byte).toNat ≤ 60 ∧ 60 < (61 : Byte).toNat) ∧
    (withP0 { p0 with locate := some 52500 } zone).points[0] = some { p0 with locate := some 52500 } ∧
    atOrBefore (52500 : Clock) zone.clock = true ∧ atOrBefore (52501 : Clock) zone.clock = false ∧ zone.inReset = false ∧
    p0.locate = none :=
  ⟨fun _ => zone_asks _ _ _, by decide +kernel⟩

/-- Any recipient and hold; a point with an offer and one without; an offer at its time and 1 ms before it. -/
theorem witness_OffersAreMadeWithdrawnAndExpire :
    (∀ recipient hold : Byte,
      (asking 3 0x20 [slotByte 0, recipient, hold] zone).holds .directed 3 0x20 [slotByte 0, recipient, hold]) ∧
    zone.points[0] = some p0 ∧ p0.owner = 3 ∧
    (1 ≤ (1 : Byte).toNat ∧ (15 : Byte).toNat ≤ 15 ∧ (1 : Byte) ≠ p0.owner ∧ 15 < (16 : Byte).toNat) ∧
    (asking 3 0x21 [slotByte 0] (withP0 { p0 with offer := some ⟨5, 52500⟩ } zone)).holds .directed 3 0x21 [slotByte 0] ∧
    (withP0 { p0 with offer := some ⟨5, 52500⟩ } zone).points[0] = some { p0 with offer := some ⟨5, 52500⟩ } ∧
    zone.inReset = false ∧ atOrBefore (52500 : Clock) zone.clock = true ∧ atOrBefore (52501 : Clock) zone.clock = false ∧
    p0.offer = none :=
  ⟨fun _ _ => zone_asks _ _ _, by unfold State.holds; decide +kernel⟩

/-- A take from an open reference and from a closed one, without an offer, and with the offer of another; an assignment to the
ends of the range of owners and beyond them. -/
theorem witness_TakeAndAssignMoveThePointWithItsChannel :
    (∀ x ∈ [refA, { refA with isOpen := true }],
      let r : PointRecord := { p0 with offer := some ⟨5, 130000⟩ }
      let s := asking 5 0x22 [slotByte 0] (withRefA x (withP0 r zone))
      s.holds .directed 5 0x22 [slotByte 0] ∧ s.points[0] = some r ∧ s.refs[r.reference] = some x ∧
      x.owner ≠ 5 ∧ (5 : Byte) ≠ 15) ∧
    (asking 5 0x22 [slotByte 0] zone).holds .directed 5 0x22 [slotByte 0] ∧ p0.offer = none ∧
    (∀ owner ∈ [(1 : Byte), 15, 0, 16],
      let s := asking 15 0x23 [slotByte 0, owner] zone
      s.holds .directed 15 0x23 [slotByte 0, owner] ∧ s.points[0] = some p0 ∧ s.refs[p0.reference] = some refA) ∧
    refA.owner ≠ 1 ∧ refA.isOpen = false := by
  unfold State.holds; decide +kernel

/-- Definitions with the least and with too small a span, of an EMPTY and of a defined reference; amendments that are made, that
meet a CALIBRATING reference, that are out of range, in use, and that close a reference used by another owner's point. -/
theorem witness_ReferencesAreDefinedAndAmended :
    (∀ payload : List Byte, (asking 4 0x30 payload zone).holds .directed 4 0x30 payload) ∧ zone.refs[1] = none ∧
    zone.refs[0] ≠ none ∧ 256 ≤ (256 : Half).toNat ∧ (255 : Half).toNat < 256 ∧
    (∀ (x : RefRecord) (payload : List Byte), (asking 3 0x31 payload (withRefA x zone)).holds .directed 3 0x31 payload ∧
      (withRefA x zone).refs[0] = some x) ∧
    refA.owner = 3 ∧ refA.state ≠ .calibrating ∧ 0 < refA.liveUsers ∧ (15 : Byte).toNat < 16 ∧ ¬ (16 : Byte).toNat < 16 ∧
    (∀ p : Slot, ∀ q ∈ zone.points[p], q.reference = 0 → q.owner = refA.owner ∨ q.owner = 15) ∧
    ¬ (∀ p : Slot, ∀ q ∈ (withP0 { p0 with owner := 5 } zone).points[p], q.reference = 0 → q.owner = refA.owner ∨ q.owner = 15) :=
  ⟨fun _ => zone_asks _ _ _, by decide +kernel, by decide +kernel, by decide, by decide, fun _ _ => ⟨⟨rfl, rfl⟩, rfl⟩,
    by decide +kernel⟩

/-- VALID and CALIBRATING; with users and without. -/
theorem witness_ReferencesAreCalibratedOnRequestAndRetired :
    ∀ x ∈ [refA, { refA with state := .calibrating, prior := some .valid }, { refA with users := 0, liveUsers := 0 }],
      let s (code : Byte) := asking 3 code [refByte 0] (withRefA x zone)
      (s 0x32).holds .directed 3 0x32 [refByte 0] ∧ (s 0x34).holds .directed 3 0x34 [refByte 0] ∧
      (s 0x32).refs[0] = some x ∧ admitted 3 x.owner := by
  unfold State.holds admitted; decide +kernel

theorem witness_ReadRefReplyFollowsItsTable :
    (asking 9 0x33 [refByte 0] zone).holds .directed 9 0x33 [refByte 0] ∧ (asking 9 0x33 [refByte 0] zone).refs[0] = some refA := by
  unfold State.holds; decide +kernel

/-- A queued point, the current job, a point that is not LIVE; MEASURE_OWNED of any source. -/
theorem witness_MeasurementsAreBroughtForward :
    (let s := asking 3 0x40 [slotByte 0] zone
     s.holds .directed 3 0x40 [slotByte 0] ∧ s.points[0] = some p0 ∧ admitted 3 p0.owner ∧ p0.state = .live ∧
     s.isCurrent (.point 0) = false ∧ entryIn s.queue (.point 0) = some ⟨.point 0, 53000, false⟩) ∧
    (let s := asking 3 0x40 [slotByte 0] (zoneP0 (.sensorPhase pointJob))
     s.holds .directed 3 0x40 [slotByte 0] ∧ s.points[0] = some p0 ∧ s.isCurrent (.point 0) = true) ∧
    (let s := asking 3 0x40 [slotByte 1] zone
     s.holds .directed 3 0x40 [slotByte 1] ∧ s.points[1] = some p1 ∧ p1.state ≠ .live) ∧
    (asking 3 0x41 [] zone).holds .directed 3 0x41 [] := by
  unfold State.holds admitted; decide +kernel

/-- A marked reference at the head; a marked point whose reference is VALID, UNCAL or FAULTED; a busy converter, an empty queue,
an unmarked head. -/
theorem witness_DispatchActsOnTheMarkedHead :
    (let s : State := { zone with queue := [⟨.ref 0, 52500, true⟩] }
     s.inReset = false ∧ s.converter.state = .idle ∧ s.queue = ⟨.ref 0, 52500, true⟩ :: [] ∧ s.refs[0] = some refA) ∧
    (∀ x ∈ [refA, { refA with state := .uncal, count := none }, { refA with state := .faulted, count := none }],
      let s := withRefA x ready
      s.inReset = false ∧ s.converter.state = .idle ∧ s.queue = ⟨.point 0, 53000, true⟩ :: [⟨.ref 0, 650010, false⟩] ∧
      s.points[0] = some p0 ∧ s.refs[p0.reference] = some x ∧ s.ownMode p0.binding) ∧
    (zoneP0 .hold).converter.state ≠ .idle ∧ State.reset.queue = [] ∧
    zone.queue = ⟨.point 0, 53000, false⟩ :: [⟨.ref 0, 650010, false⟩] := by
  unfold State.ownMode; decide +kernel

/-- The floor of the setting and 1 mV below it, for both kinds of job; the hold. -/
theorem witness_SupplyCheckPassesOrReturnsTheJob :
    (zoneA (.supplyCheck refJob)).converter.state = .supplyCheck refJob ∧ refJob.record = .ref 0 ∧
    (zoneA (.supplyCheck refJob)).refs[0] = some { refA with state := .calibrating, prior := some .valid } ∧
    (zoneP0 (.supplyCheck pointJob)).converter.state = .supplyCheck pointJob ∧ pointJob.record = .point 0 ∧
    pointJob.count = some 40960 ∧ 2600 + 100 * zone.settings.floor.toNat ≤ 2800 ∧
    2799 < 2600 + 100 * zone.settings.floor.toNat ∧ (withJob .hold zone).converter.state = .hold ∧ zone.inReset = false := by
  decide +kernel

/-- An oscillator that is stopped; the frequencies of the greatest T, of one count more, of T = 64 and of T = 63, under DC and under
ALTERNATING. -/
theorem witness_ReferencePhaseDeliversACountOrAFault :
    let s := zoneA (.referencePhase refJob)
    s.inReset = false ∧ s.converter.state = .referencePhase refJob ∧ refJob.record = .ref 0 ∧
    s.refs[0] = some { refA with state := .calibrating, prior := some .valid } ∧ countsInTime refJob 0 = false ∧
    (∀ j ∈ [refJob, { refJob with excitation := .alternating }], ∃ f ∈ [3906250000, 7812500000],
      countsInTime j f = false ∧ countsInTime j (f + 1000) = true) ∧
    4096 * 4000000000000 / 256000000000000 = 64 ∧ 4096 * 4000000000000 / 256000000000001 = 63 ∧
    2 * 4096 * 4000000000000 / 512000000000000 = 64 ∧ 2 * 4096 * 4000000000000 / 512000000000001 = 63 := by decide +kernel

/-- M = 16, 15, 262,143 and 262,144, under DC and under ALTERNATING. -/
theorem witness_SensorPhaseDeliversAMeasurementOrAFault :
    let s := zoneP0 (.sensorPhase pointJob)
    s.inReset = false ∧ s.converter.state = .sensorPhase pointJob ∧ pointJob.record = .point 0 ∧ pointJob.count = some 40960 ∧
    s.points[0] = some p0 ∧ s.refs[p0.reference] = some refA ∧ s.ownMode p0.binding ∧
    [1562500000, 1562499999, 25599999999999, 25600000000000].map (windowCount .dc 40960) = [16, 15, 262143, 262144] ∧
    [3125000000, 3124999999, 51199999999999, 51200000000000].map (windowCount .alternating 40960) = [16, 15, 262143, 262144] := by
  unfold State.ownMode; decide +kernel

/-- The deadline at the clock, with an alarm and at FAULT, and 1 ms after the clock; a point without a deadline. -/
theorem witness_FreshnessExpiryMakesAPointStale :
    let s : State := { zone with clock := 55000 }
    s.inReset = false ∧ s.points[0] = some p0 ∧ s.ownMode p0.binding ∧ p0.state = .live ∧ p0.deadline = some 55000 ∧
    atOrBefore (55000 : Clock) 55000 = true ∧ p0.alarm ≠ .fault ∧
    (withP0 { p0 with alarm := .fault, quality := .open } s).points[0] = some { p0 with alarm := .fault, quality := .open } ∧
    atOrBefore (55000 : Clock) 54999 = false ∧ p1.deadline = none := by
  unfold State.ownMode; decide +kernel

/-- An unowned channel and an owned one; an enabled one; fields out of range; D0 and a bound channel asked to follow. -/
theorem witness_ChannelsAreConfiguredAndReleased :
    (∀ payload : List Byte, (asking 7 0x50 payload zone).holds .directed 7 0x50 payload) ∧
    zone.channels[5].owner = 0 ∧ zone.channels[5].enabled = false ∧ zone.channels[5].binding = none ∧
    zone.channels[0].owner = 0 ∧ zone.channels[0].enabled = false ∧ zone.channels[0].binding = none ∧
    2 ≤ (2 : Half).toNat ∧ (1 : Half).toNat < 2 ∧ 1 < (2 : Byte).toNat ∧
    (∀ (x : DriveChannel) (code : Byte) (payload : List Byte),
      (asking 3 code payload (withD1 x zone)).holds .directed 3 code payload ∧ (withD1 x zone).channels[1] = x) ∧
    d1.owner = 3 ∧ d1.enabled = true ∧ d1.binding ≠ none :=
  ⟨fun _ => zone_asks _ _ _, by decide +kernel, by decide +kernel, by decide +kernel, by decide +kernel, by decide +kernel,
    by decide +kernel, by decide, by decide, by decide, fun _ _ _ => ⟨⟨rfl, rfl⟩, rfl⟩, by decide +kernel⟩

theorem witness_LevelsAndManualDutyAreSet :
    (∀ x ∈ [d1, { d1 with binding := none }],
      (asking 3 0x51 (channelByte 1 :: d1.levels.bytes) (withD1 x zone)).holds .directed 3 0x51 (channelByte 1 :: d1.levels.bytes) ∧
      (asking 3 0x53 (channelByte 1 :: be16 65535) (withD1 x zone)).holds .directed 3 0x53 (channelByte 1 :: be16 65535) ∧
      (withD1 x zone).channels[1] = x ∧ admitted 3 x.owner) ∧
    d1.binding = some 0 ∧ zone.points[0] = some p0 ∧ d1.mode = .own := by
  unfold State.holds admitted; decide +kernel

/-- Periods 2 and 1, of an enabled channel and of a disabled one; a bound, an unbound and a following channel to be enabled. -/
theorem witness_PeriodsAreSetAndChannelsEnabledAndDisabled :
    (∀ (x : DriveChannel) (code : Byte) (payload : List Byte),
      (asking 3 code payload (withD1 x zone)).holds .directed 3 code payload ∧ (withD1 x zone).channels[1] = x) ∧
    d1.owner = 3 ∧ d1.enabled = true ∧ d1.mode = .own ∧ 2 ≤ (2 : Half).toNat ∧ (1 : Half).toNat < 2 ∧ d1.binding = some 0 ∧
    zone.points[0] = some p0 ∧ levelFor p0.alarm d1.levels = 300 ∧ zone.channels[0].enabled = false :=
  ⟨fun _ _ _ => ⟨⟨rfl, rfl⟩, rfl⟩, by decide +kernel⟩

theorem witness_ReadDriveReplyFollowsItsTable :
    (∀ c : ChannelId, (asking 9 0x57 [channelByte c] zone).holds .directed 9 0x57 [channelByte c]) ∧ d1.mode = .own ∧
    d1.binding = some 0 ∧ zone.points[0] = some p0 ∧ zone.channels[1] = d1 ∧ zone.channels[0].binding = none ∧
    (withD1 { d1 with mode := .follow, binding := none } zone).channels[1].mode = .follow := by
  unfold State.holds; decide +kernel

theorem witness_BoundariesApplyWhatIsPending :
    zone.inReset = false ∧ zone.channels[1].enabled = true ∧ zone.channels[1].mode = .own ∧
    (withD1 { d1 with mode := .follow, binding := none } zone).channels[1].mode = .follow ∧ zone.channels[0].enabled = false ∧
    zone.channels[1].counter.toNat < zone.channels[1].activeDuty.toNat ∧
    zone.channels[1].activeDuty.toNat < zone.channels[1].activePeriod.toNat ∧ d1.polarity = .activeHigh ∧
    (withD1 { d1 with polarity := .activeLow } zone).channels[1].polarity = .activeLow := by decide +kernel

theorem witness_ReadNoticesReturnsAndRemovesTheSourcesMembers :
    (asking 3 0x70 [] { zone with noticePoints := zone.noticePoints.set 0 true }).holds .directed 3 0x70 [] := ⟨rfl, rfl⟩

theorem witness_ReadStatusReplyFollowsItsTable :
    (asking 3 0x71 [] zone).holds .directed 3 0x71 [] ∧ zone.converter.state.job = none ∧
    (zoneA (.referencePhase refJob)).converter.state.job = some refJob ∧
    (zoneP0 (.sensorPhase pointJob)).converter.state.job = some pointJob :=
  ⟨zone_asks _ _ _, by decide +kernel⟩

theorem witness_CausesSettingsAndAlert :
    (asking 15 0x72 [] zone).holds .directed 15 0x72 [] ∧
    (∀ payload : List Byte, (asking 15 0x73 payload zone).holds .directed 15 0x73 payload) ∧
    ((15 : Byte).toNat < 16 ∧ (7 : Byte).toNat ≤ 7 ∧ (1 : Byte).toNat ≤ 1) ∧ ¬ (16 : Byte).toNat < 16 ∧ ¬ (8 : Byte).toNat ≤ 7 :=
  ⟨zone_asks _ _ _, fun _ => zone_asks _ _ _, by decide⟩

theorem witness_ClearTablesEmptiesEveryTable : (asking 15 0x74 [] zone).holds .directed 15 0x74 [] := zone_asks _ _ _

/-- A code that is not listed, a listed one with a payload of another length, an empty command buffer. -/
theorem witness_UnknownCodesAndWrongLengthsAreRefused :
    (asking 3 0x75 [] zone).holds .directed 3 0x75 [] ∧ (∀ row ∈ commandTable, row.2.1 ≠ 0x75) ∧
    (asking 3 0x12 [1, 2] zone).holds .directed 3 0x12 [1, 2] ∧ (Instr.startPoint, (0x12 : Byte), 1) ∈ commandTable ∧
    [1, 2].length ≠ 1 ∧ zone.port.command = none := by
  unfold State.holds; decide +kernel

/-- Slots 48 and 254, reference 4, channel 8; slot 47, which is vacant, and reference D, which is EMPTY; source 9, which owns
nothing; an amendment whose present reference and binding are within range and defined. -/
theorem witness_NamedRecordsMustExistAndBeTheSources :
    (∀ row ∈ commandTable, ∀ named ∈ [(48 : Byte), 254, 4, 8, 47, 3, 0, 1], row.2.2 ≠ 0 →
      (asking 9 row.2.1 (named :: List.replicate (row.2.2 - 1) 0) zone).holds .directed 9 row.2.1
        (named :: List.replicate (row.2.2 - 1) 0)) ∧
    zone.points[47] = none ∧ zone.refs[3] = none ∧ p0.owner ≠ 9 ∧ refA.owner ≠ 9 ∧ d1.owner ≠ 9 ∧ d1.owner ≠ 0 ∧
    (asking 9 0x72 [] zone).holds .directed 9 0x72 [] ∧
    (∀ mask : Half, ([9] ++ (be16 mask ++ p1.fields.bytes)).drop 1 = be16 mask ++ p1.fields.bytes) ∧
    namesInRange 1028 p1.fields ∧ zone.referenceDefined 1028 p1.fields := by
  unfold State.holds namesInRange State.referenceDefined bindingInRange
  exact ⟨by decide +kernel, by decide +kernel, by decide +kernel, by decide +kernel, by decide +kernel, by decide +kernel,
    by decide +kernel, by decide +kernel, fun _ => rfl, by decide +kernel, by decide +kernel⟩

theorem witness_RefusedCommandsChangeNothing :
    let s := asking 9 0x12 [slotByte 0] zone
    s.holds .directed 9 0x12 [slotByte 0] ∧ (Instr.startPoint, (0x12 : Byte), 1) ∈ commandTable ∧ s.port.turnaround = true ∧
    seen (exec .startPoint s) (fun t => t.port.reply) = some (some ⟨9, 0x18, []⟩) := by
  unfold State.holds; decide +kernel

/-- A free line, a frame in COLLECTING, a waiting reply. -/
theorem witness_AddressCharactersStartCutAndPreempt :
    zone.inReset = false ∧ zone.port.hears = true ∧ zone.port.turnaround = false ∧
    ({ zone.port with rx := .collecting .broadcast, buffer := [1] } : Port).hears = true ∧
    ({ zone.port with turnaround := true } : Port).hears = true ∧ zone.port.rx = .addressWait := by decide +kernel

/-- 79 characters in the buffer, and 80; an all-low character; a part that sends. -/
theorem witness_DataCharactersAreCollectedOrIgnored :
    (List.replicate 79 (0 : Byte)).length < 80 ∧ 80 ≤ (List.replicate 80 (0 : Byte)).length ∧
    ({ zone.port with rx := .collecting .directed, buffer := List.replicate 80 0 } : Port).hears = true ∧
    ¬ ((0 : Byte) = 0 ∧ true = false) ∧
    ({ zone.port with sending := [⟨5, true⟩], reply := some ⟨5, 0, []⟩ } : Port).isSending = true := by decide +kernel

/-- Frames that fail each of the six checks, and one of each kind that passes. -/
theorem witness_FramesAreAcceptedOrDiscardedAtTheGap :
    let gap (kind : FrameKind) (command : Option CommandFrame) (buffer : List Byte) :=
      seen (exec .idleGap { zone with port := { zone.port with rx := .collecting kind, command := command, buffer := buffer } })
        (fun t => (t.port.lastDiscard, t.port.command.map CommandFrame.source))
    let checked (body : List Byte) := body ++ be16 (frameCheck body)
    gap .directed none [1, 2, 3, 4] = some (some .short, none) ∧
    gap .directed none (checked [5, 0x22, 2, 0]) = some (some .length, none) ∧
    gap .directed none [5, 0x22, 0, 0, 0] = some (some .check, none) ∧
    gap .directed none (checked [0, 0x71, 0]) = some (some .source, none) ∧
    gap .directed none (checked [16, 0x71, 0]) = some (some .source, none) ∧
    gap .directed (some ⟨.directed, 4, 0x71, []⟩) (checked [1, 0x71, 0]) = some (some .busy, some 4) ∧
    gap .broadcast none (checked [1, 0x71, 0]) = some (some .notBroadcast, none) ∧
    gap .broadcast none (checked [1, 0x41, 0]) = some (none, some 1) ∧
    gap .directed none (checked [15, 0x71, 0]) = some (none, some 15) := by decide +kernel

theorem witness_BreaksAndRisesJudgeALowLine :
    zone.port.isSending = false ∧ zone.port.lowRun ≠ .broken ∧ zone.port.rx = .addressWait ∧
    ({ zone.port with rx := .collecting .directed, lowRun := .allLow } : Port).lowRun = .allLow ∧
    ({ zone.port with turnaround := true } : Port).turnaround = true ∧
    ({ zone.port with lowRun := .broken } : Port).lowRun = .broken := by decide +kernel

/-- A reply that waits; a part that sends its last character, and one before it; an echo that differs in each way. -/
theorem witness_RepliesAreSentAndEchoed :
    (let p : Port := { zone.port with reply := some ⟨5, 0, []⟩, turnaround := true }
     p.reply = some ⟨5, 0, []⟩ ∧ p.turnaround = true ∧ p.hears = true) ∧ zone.port.reply = none ∧ zone.inReset = false ∧
    (∀ rest ∈ [[], [(⟨32, false⟩ : LineCharacter)]],
      ({ zone.port with sending := ⟨5, true⟩ :: rest } : Port).sending = ⟨5, true⟩ :: rest) ∧
    ((6 : Byte) ≠ 5 ∨ true ≠ true ∨ true = false) := by decide +kernel

/-- A READ_STATUS frame from source 1, and a broadcast from source 15; 75 bytes are within the range. -/
theorem witness_FramesOnTheLineReachTheCommandBuffer :
    zone.inReset = false ∧ zone.port.hears = true ∧ zone.port.rx = .addressWait ∧ zone.port.turnaround = false ∧
    zone.port.command = none ∧ (List.replicate 75 (0 : Byte)).length ≤ 75 ∧
    seen (runRows (frameRows 32 1 0x71 []) zone) (fun t => t.port.command) = some (some ⟨.directed, 1, 0x71, []⟩) ∧
    seen (runRows (frameRows 127 15 0x41 [7]) zone) (fun t => (t.port.command, t.port.turnaround)) =
      some (some ⟨.broadcast, 15, 0x41, [7]⟩, false) := by decide +kernel

end Sys2Proof.Tests
end

/-! SUPPORT. What a step, a command and a completion can do, for any property of the part that is left. -/

namespace Sys2Proof.Machine

/-- A step idles, or is the row at the front of the queue acting on the part with the rest of the queue. -/
theorem step_next {s t : State} (h : step s = .next t) :
    t = s ∨ ∃ c rest, s.pending = c :: rest ∧ exec c { s with pending := rest } = .next t := by
  unfold step at h
  split at h
  · exact .inl (Host.Outcome.next.inj h).symm
  · next c rest hq => exact .inr ⟨c, rest, hq, h⟩

/-! ### The part that a command leaves -/

/-- A command that is not refused leaves a part of which `P` is true. -/
def Answer.Leaves (P : State → Prop) : Answer → Prop
  | .refuse _ => True
  | .ok t _ => P t
  | .accepted t => P t

theorem leaves_require {P : State → Prop} {passes : Bool} {code : ReplyCode} {rest : Answer}
    (h : passes = true → rest.Leaves P) : (require passes code rest).Leaves P := by
  cases passes
  · trivial
  · exact h rfl

theorem leaves_onPoint {P : State → Prop} {slot : Byte} {s : State} {rest : Slot → PointRecord → Answer}
    (h : ∀ p r, s.points[p] = some r → (rest p r).Leaves P) : (onPoint slot s rest).Leaves P := by
  unfold onPoint
  split
  · split
    · next r hr => exact h _ r hr
    · trivial
  · trivial

theorem leaves_onRef {P : State → Prop} {designator : Byte} {s : State} {rest : RefId → RefRecord → Answer}
    (h : ∀ r x, s.refs[r] = some x → (rest r x).Leaves P) : (onRef designator s rest).Leaves P := by
  unfold onRef
  split
  · split
    · next x hx => exact h _ x hx
    · trivial
  · trivial

theorem leaves_onChannel {P : State → Prop} {channel : Byte} {rest : ChannelId → Answer}
    (h : ∀ c, (rest c).Leaves P) : (onChannel channel rest).Leaves P := by
  unfold onChannel
  split
  · exact h _
  · trivial

theorem leaves_onOwnedChannel {P : State → Prop} {source channel : Byte} {s : State} {rest : ChannelId → Answer}
    (h : ∀ c, (rest c).Leaves P) : (onOwnedChannel source channel s rest).Leaves P :=
  leaves_onChannel fun c => leaves_require fun _ => h c

theorem leaves_bindingTest {P : State → Prop} {s : State} {b : Option ChannelId} {owner : Byte} {p : Slot} {rest : Answer}
    (h : rest.Leaves P) : (bindingTest s b owner p rest).Leaves P := by
  cases b with
  | none => exact h
  | some c => exact leaves_require fun _ => leaves_require fun _ => leaves_require fun _ => h

theorem leaves_chosenSlot {P : State → Prop} {slot : Byte} {s : State} {rest : Slot → Answer}
    (h : ∀ p, s.points[p] = none → (rest p).Leaves P) : (chosenSlot slot s rest).Leaves P := by
  unfold chosenSlot
  split
  · split
    · trivial
    · next hn => exact h _ hn
  · split
    · next p hp => exact h p (by simpa using List.find?_some hp)
    · trivial

/-- A completion row keeps what does not speak of the port when its command does. -/
theorem complete_keeps {P : State → Prop} {code : Byte} {command : Byte → List Byte → State → Answer} {s t : State}
    (h : complete code command s = .next t) (hs : P s) (hport : ∀ u p, P u → P (u.setPort p))
    (hc : ∀ f, s.port.command = some f → (command f.source f.payload s).Leaves P) : P t := by
  rcases complete_next h with rfl | ⟨f, -, hf, -, rfl⟩
  · exact hs
  · have hl := hc f hf
    cases ha : command f.source f.payload s with
    | refuse code => exact hport s _ hs
    | ok u payload => rw [ha] at hl; exact hport u _ hl
    | accepted u => rw [ha] at hl; exact hport u _ hl

/-- A row that needs the part to run keeps what its effect keeps. -/
theorem running_keeps {P : State → Prop} {s t u : State} (h : running s t = .next u) (hs : P s) (ht : P t) : P u := by
  rcases running_next h with rfl | rfl
  · exact ht
  · exact hs

end Sys2Proof.Machine

/-! SUPPORT. What every row can make of the point table and the tag map, and the two invariants that follow (R4, R3). -/

namespace Sys2Proof.Machine

/-! ### Operations that leave the point table and the tag map alone -/

@[simp] theorem gainUser_points (s : State) (r : RefId) : (s.gainUser r).points = s.points := by rw [gainUser_frame]
@[simp] theorem gainUser_tagMap (s : State) (r : RefId) : (s.gainUser r).tagMap = s.tagMap := by rw [gainUser_frame]

@[simp] theorem loseUser_points (s : State) (r : RefId) : (s.loseUser r).points = s.points := by rw [loseUser_frame]
@[simp] theorem loseUser_tagMap (s : State) (r : RefId) : (s.loseUser r).tagMap = s.tagMap := by rw [loseUser_frame]

@[simp] theorem gainLiveUser_points (s : State) (r : RefId) : (s.gainLiveUser r).points = s.points := by
  rw [gainLiveUser_frame]
@[simp] theorem gainLiveUser_tagMap (s : State) (r : RefId) : (s.gainLiveUser r).tagMap = s.tagMap := by
  rw [gainLiveUser_frame]

@[simp] theorem loseLiveUser_points (s : State) (r : RefId) : (s.loseLiveUser r).points = s.points := by
  rw [loseLiveUser_frame]
@[simp] theorem loseLiveUser_tagMap (s : State) (r : RefId) : (s.loseLiveUser r).tagMap = s.tagMap := by
  rw [loseLiveUser_frame]

@[simp] theorem requestLevel_points (s : State) (b : Option ChannelId) (a : Alarm) :
    (s.requestLevel b a).points = s.points := by rw [requestLevel_frame]
@[simp] theorem requestLevel_tagMap (s : State) (b : Option ChannelId) (a : Alarm) :
    (s.requestLevel b a).tagMap = s.tagMap := by rw [requestLevel_frame]

@[simp] theorem bindChannel_points (s : State) (b : Option ChannelId) (p : Slot) (a : Alarm) :
    (s.bindChannel b p a).points = s.points := by rw [bindChannel_frame]
@[simp] theorem bindChannel_tagMap (s : State) (b : Option ChannelId) (p : Slot) (a : Alarm) :
    (s.bindChannel b p a).tagMap = s.tagMap := by rw [bindChannel_frame]

@[simp] theorem unbindChannel_points (s : State) (b : Option ChannelId) : (s.unbindChannel b).points = s.points := by
  rw [unbindChannel_frame]
@[simp] theorem unbindChannel_tagMap (s : State) (b : Option ChannelId) : (s.unbindChannel b).tagMap = s.tagMap := by
  rw [unbindChannel_frame]

@[simp] theorem moveChannelOwner_points (s : State) (b : Option ChannelId) (owner : Byte) :
    (s.moveChannelOwner b owner).points = s.points := by rw [moveChannelOwner_frame]
@[simp] theorem moveChannelOwner_tagMap (s : State) (b : Option ChannelId) (owner : Byte) :
    (s.moveChannelOwner b owner).tagMap = s.tagMap := by rw [moveChannelOwner_frame]

@[simp] theorem announce_points (s : State) (p : Slot) (r : PointRecord) (a : Alarm) :
    (s.announce p r a).points = s.points := by rw [announce_frame]
@[simp] theorem announce_tagMap (s : State) (p : Slot) (r : PointRecord) (a : Alarm) :
    (s.announce p r a).tagMap = s.tagMap := by rw [announce_frame]

@[simp] theorem insertEntry_points (s : State) (k : Record) (due : Clock) : (s.insertEntry k due).points = s.points := rfl
@[simp] theorem insertEntry_tagMap (s : State) (k : Record) (due : Clock) : (s.insertEntry k due).tagMap = s.tagMap := rfl

@[simp] theorem returnEntry_points (s : State) (k : Record) (due : Clock) : (s.returnEntry k due).points = s.points := rfl
@[simp] theorem returnEntry_tagMap (s : State) (k : Record) (due : Clock) : (s.returnEntry k due).tagMap = s.tagMap := rfl

@[simp] theorem withdraw_points (s : State) (p : Slot) : (s.withdraw p).points = s.points := by
  rw [State.withdraw, abortJob_eq]; rfl
@[simp] theorem withdraw_tagMap (s : State) (p : Slot) : (s.withdraw p).tagMap = s.tagMap := by
  rw [State.withdraw, abortJob_eq]; rfl

/-! ### How a row changes the point table and the tag map -/

/-- The point in a slot has an entry in the due queue or is the current job. -/
def State.scheduled (s : State) (p : Slot) : Prop :=
  (s.entryOf (.point p)).isSome = true ∨ s.isCurrent (.point p) = true

/-- The controller is the source of the frame in the command buffer. -/
def State.commandedBy (s : State) (source : Byte) : Prop := ∃ f, s.port.command = some f ∧ f.source = source

/-- What a row other than AMEND_POINT can make of the record `r` of slot `p`. -/
inductive RecordChange (s : State) (p : Slot) (r : PointRecord) : PointRecord → Prop
  /-- START_POINT (R17). -/
  | started (deadline : Clock) :
    RecordChange s p r { r with state := .live, faults := 0, alarm := .unknown, deadline := some deadline }
  /-- STOP_POINT of a LIVE point (R18). -/
  | stopped : RecordChange s p r { r with state := .dormant, alarm := .unknown, deadline := none }
  /-- STOP_POINT of a HELD point (R19). -/
  | dropped (h : r.state = .held) : RecordChange s p r { r with state := .dormant, alarm := .unknown }
  /-- LOCATE_POINT and locate expiry (R158, R159). -/
  | located (locate : Option Clock) : RecordChange s p r { r with locate := locate }
  /-- OFFER_POINT (R36). -/
  | offered (o : Offer) (h : 1 ≤ o.recipient.toNat ∧ o.recipient.toNat ≤ 15 ∧ o.recipient ≠ r.owner) :
    RecordChange s p r { r with offer := some o }
  /-- WITHDRAW_OFFER and offer expiry (R37, R41). -/
  | unoffered : RecordChange s p r { r with offer := none }
  /-- TAKE_POINT and ASSIGN_OWNER (R39, R44). -/
  | moved (owner : Byte) (h : s.commandedBy owner ∨ 1 ≤ owner.toNat ∧ owner.toNat ≤ 15) :
    RecordChange s p r { r with
      owner := owner, offer := if r.offer.any (fun o => o.recipient == owner) then none else r.offer }
  /-- A measurement outcome (R113). -/
  | measured (h : s.scheduled p) (v : Half) (q : Quality) (hq : q.isValue = true) :
    RecordChange s p r (measuredRecord r v q s.clock)
  /-- A fault outcome (R119, R120). -/
  | faulted (h : s.scheduled p) (q : Quality) (hq : q.isFault = true) : RecordChange s p r (faultedRecord r q)
  /-- Freshness expiry of a point whose alarm state is FAULT (R125). -/
  | undated : RecordChange s p r { r with deadline := none }
  /-- Freshness expiry of another LIVE point (R125). -/
  | stale (h : r.state = .live) : RecordChange s p r { r with quality := .stale, alarm := .fault, deadline := none }

/-- What a row can make of the point table and the tag map: from `s` to `t`, and with which of its checks. -/
inductive PointsChange (s t : State) : Prop
  /-- Every row that is not named below. -/
  | kept (hp : t.points = s.points) (ht : t.tagMap = s.tagMap)
  /-- One record is written; the tag map stays. -/
  | written (p : Slot) (r n : PointRecord) (hr : s.points[p] = some r) (hn : RecordChange s p r n)
    (hp : t.points = s.points.set p (some n)) (ht : t.tagMap = s.tagMap)
  /-- DEFINE_POINT (R8, R9). -/
  | defined (p : Slot) (f : PointFields) (source : Byte) (hv : s.points[p] = none) (hs : s.commandedBy source)
    (hf : fieldsInRange (fun _ => true) f = true) (hb : bandConstraints f.bandLow f.bandHigh f.hysteresis = true)
    (hu : (s.slotOfTag f.tag).isNone = true)
    (hp : t.points = s.points.set p (some (definedRecord f source))) (ht : t.tagMap = s.tagMap.set p (some f.tag))
  /-- AMEND_POINT (R12, R13). -/
  | amended (p : Slot) (r : PointRecord) (mask : Half) (f : PointFields) (hr : s.points[p] = some r)
    (hl : (!(r.state == .live && staticPresent mask)) = true) (hf : fieldsInRange mask.getLsbD f = true)
    (hb : (mask == 0 || bandConstraints (amendedRecord mask f r).bandLow (amendedRecord mask f r).bandHigh
      (amendedRecord mask f r).hysteresis) = true)
    (hu : (!(mask.getLsbD 0 && s.tagElsewhere f.tag p)) = true)
    (hp : t.points = s.points.set p (some (amendedRecord mask f r)))
    (ht : t.tagMap = if (amendedRecord mask f r).tag != r.tag then s.tagMap.set p (some (amendedRecord mask f r).tag)
      else s.tagMap)
  /-- RETIRE_POINT (R20). -/
  | retired (p : Slot) (hp : t.points = s.points.set p none) (ht : t.tagMap = s.tagMap.set p none)
  /-- CLEAR_TABLES and hardware reset (R172, R173). -/
  | cleared (hp : t.points = Vector.replicate 48 none) (ht : t.tagMap = Vector.replicate 48 none)

/-- How the tables changed is read off the point table and the tag map alone. -/
theorem PointsChange.congr {s t u : State} (h : PointsChange s t) (hp : u.points = t.points) (ht : u.tagMap = t.tagMap) :
    PointsChange s u := by
  cases h with
  | kept h1 h2 => exact .kept (hp.trans h1) (ht.trans h2)
  | written p r n hr hn h1 h2 => exact .written p r n hr hn (hp.trans h1) (ht.trans h2)
  | defined p f source hv hs hf hb hu h1 h2 => exact .defined p f source hv hs hf hb hu (hp.trans h1) (ht.trans h2)
  | amended p r mask f hr hl hf hb hu h1 h2 => exact .amended p r mask f hr hl hf hb hu (hp.trans h1) (ht.trans h2)
  | retired p h1 h2 => exact .retired p (hp.trans h1) (ht.trans h2)
  | cleared h1 h2 => exact .cleared (hp.trans h1) (ht.trans h2)

/-! ### The point commands -/

theorem definePoint_pointsChange {s : State} {source : Byte} (hs : s.commandedBy source) (payload : List Byte) :
    (definePoint source payload s).Leaves (PointsChange s) := by
  unfold definePoint
  split
  · split
    · next f _ =>
      refine leaves_require fun _ => leaves_chosenSlot fun p hv => ?_
      split
      · trivial
      · exact leaves_require fun hf => leaves_require fun hb => leaves_require fun hu => leaves_require fun _ =>
          leaves_bindingTest (.defined p f source hv hs hf hb hu (by simp [State.fillSlot])
            (by simp [State.fillSlot, definedRecord]))
    · trivial
  · trivial

theorem amendSlot_points (s : State) (p : Slot) (r n : PointRecord) :
    (s.amendSlot p r n).points = s.points.set p (some n) := by
  simp [State.amendSlot, apply_ite State.points, State.leavePoint]

theorem amendSlot_tagMap (s : State) (p : Slot) (r n : PointRecord) :
    (s.amendSlot p r n).tagMap = if n.tag != r.tag then s.tagMap.set p (some n.tag) else s.tagMap := by
  simp [State.amendSlot, apply_ite State.tagMap, State.leavePoint]

theorem amendPoint_pointsChange (s : State) (source : Byte) (payload : List Byte) :
    (amendPoint source payload s).Leaves (PointsChange s) := by
  unfold amendPoint
  split
  · split
    · next f _ =>
      exact leaves_require fun _ => leaves_onPoint fun p r hr => leaves_require fun _ => leaves_require fun _ =>
        leaves_require fun hl => leaves_require fun hf => leaves_require fun hb => leaves_require fun hu =>
        leaves_require fun _ => leaves_bindingTest (.amended p r _ f hr hl
          ((Bool.and_eq_true _ _).mp hf).2 hb hu (amendSlot_points ..) (amendSlot_tagMap ..))
    · trivial
  · trivial

theorem startPoint_pointsChange (s : State) (source : Byte) (payload : List Byte) :
    (startPoint source payload s).Leaves (PointsChange s) := by
  unfold startPoint
  split
  · exact leaves_onPoint fun p r hr => leaves_require fun _ => leaves_require fun _ =>
      .written p r _ hr (.started _) (by simp [State.start]; rfl) (by simp [State.start])
  · trivial

theorem stopPoint_pointsChange (s : State) (source : Byte) (payload : List Byte) :
    (stopPoint source payload s).Leaves (PointsChange s) := by
  unfold stopPoint
  split
  · refine leaves_onPoint fun p r hr => leaves_require fun _ => ?_
    split
    · trivial
    · exact .written p r _ hr .stopped (by simp [State.stopLive]) (by simp [State.stopLive])
    · next h => exact .written p r _ hr (.dropped h) rfl rfl
  · trivial

theorem retire_points (s : State) (p : Slot) (r : PointRecord) : (s.retire p r).points = s.points.set p none := by
  simp [State.retire, apply_ite State.points, State.leavePoint]

theorem retire_tagMap (s : State) (p : Slot) (r : PointRecord) : (s.retire p r).tagMap = s.tagMap.set p none := by
  simp [State.retire, apply_ite State.tagMap, State.leavePoint]

theorem retirePoint_pointsChange (s : State) (source : Byte) (payload : List Byte) :
    (retirePoint source payload s).Leaves (PointsChange s) := by
  unfold retirePoint
  split
  · exact leaves_onPoint fun p r _ => leaves_require fun _ => .retired p (retire_points ..) (retire_tagMap ..)
  · trivial

theorem locatePoint_pointsChange (s : State) (source : Byte) (payload : List Byte) :
    (locatePoint source payload s).Leaves (PointsChange s) := by
  unfold locatePoint
  split
  · refine leaves_onPoint fun p r hr => leaves_require fun _ => ?_
    split
    · exact .written p r _ hr (.located none) rfl rfl
    · exact .written p r _ hr (.located _) rfl rfl
  · trivial

theorem offerPoint_pointsChange (s : State) (source : Byte) (payload : List Byte) :
    (offerPoint source payload s).Leaves (PointsChange s) := by
  unfold offerPoint
  split
  · refine leaves_onPoint fun p r hr => leaves_require fun _ => leaves_require fun h => ?_
    simp only [Bool.and_eq_true, decide_eq_true_eq, bne_iff_ne] at h
    obtain ⟨⟨⟨h1, h2⟩, h3⟩, -⟩ := h
    exact .written p r _ hr (.offered _ ⟨h1, h2, h3⟩) rfl rfl
  · trivial

theorem withdrawOffer_pointsChange (s : State) (source : Byte) (payload : List Byte) :
    (withdrawOffer source payload s).Leaves (PointsChange s) := by
  unfold withdrawOffer
  split
  · exact leaves_onPoint fun p r hr => leaves_require fun _ => leaves_require fun _ =>
      .written p r _ hr .unoffered rfl rfl
  · trivial

/-- A point that moves to the source of the command, or to a controller of 1-15. -/
theorem moveOwner_pointsChange {s : State} {p : Slot} {r : PointRecord} {owner : Byte} (hr : s.points[p] = some r)
    (h : s.commandedBy owner ∨ 1 ≤ owner.toNat ∧ owner.toNat ≤ 15) : PointsChange s (s.moveOwner p r owner) :=
  .written p r _ hr (.moved owner h) (by simp [State.moveOwner]) (by simp [State.moveOwner])

theorem takePoint_pointsChange {s : State} {source : Byte} (hs : s.commandedBy source) (payload : List Byte) :
    (takePoint source payload s).Leaves (PointsChange s) := by
  unfold takePoint
  split
  · exact leaves_onPoint fun p r hr => leaves_require fun _ => leaves_require fun _ =>
      moveOwner_pointsChange hr (.inl hs)
  · trivial

theorem assignOwner_pointsChange (s : State) (source : Byte) (payload : List Byte) :
    (assignOwner source payload s).Leaves (PointsChange s) := by
  unfold assignOwner
  split
  · refine leaves_onPoint fun p r hr => leaves_require fun _ => leaves_require fun h => leaves_require fun _ => ?_
    exact moveOwner_pointsChange hr (.inr (by simpa using h))
  · trivial

theorem clearTables_pointsChange (s : State) (source : Byte) (payload : List Byte) :
    (clearTables source payload s).Leaves (PointsChange s) := by
  unfold clearTables
  split
  · exact leaves_require fun _ => .cleared rfl rfl
  · trivial

/-! ### The other commands keep the point table and the tag map -/

theorem readPoint_pointsChange (s : State) (source : Byte) (payload : List Byte) :
    (readPoint source payload s).Leaves (PointsChange s) := by
  unfold readPoint
  split
  · exact leaves_onPoint fun _ _ _ => .kept rfl rfl
  · trivial

theorem findTag_pointsChange (s : State) (source : Byte) (payload : List Byte) :
    (findTag source payload s).Leaves (PointsChange s) := by
  unfold findTag
  split
  · split
    · exact .kept rfl rfl
    · trivial
  · trivial

theorem listPoints_pointsChange (s : State) (source : Byte) (payload : List Byte) :
    (listPoints source payload s).Leaves (PointsChange s) := by
  unfold listPoints
  split
  · exact leaves_require fun _ => .kept rfl rfl
  · trivial

theorem defineRef_pointsChange (s : State) (source : Byte) (payload : List Byte) :
    (defineRef source payload s).Leaves (PointsChange s) := by
  unfold defineRef
  split
  · exact leaves_require fun _ => leaves_require fun _ => leaves_require fun _ => .kept rfl rfl
  · trivial

theorem amendRef_pointsChange (s : State) (source : Byte) (payload : List Byte) :
    (amendRef source payload s).Leaves (PointsChange s) := by
  unfold amendRef
  split
  · exact leaves_onRef fun _ _ _ => leaves_require fun _ => leaves_require fun _ => leaves_require fun _ =>
      leaves_require fun _ => leaves_require fun _ => .kept rfl rfl
  · trivial

theorem callCalibration_points (s : State) (r : RefId) : (s.callCalibration r).points = s.points := by
  unfold State.callCalibration
  split
  · split <;> rfl
  · rfl

theorem callCalibration_tagMap (s : State) (r : RefId) : (s.callCalibration r).tagMap = s.tagMap := by
  unfold State.callCalibration
  split
  · split <;> rfl
  · rfl

theorem calibrateRef_pointsChange (s : State) (source : Byte) (payload : List Byte) :
    (calibrateRef source payload s).Leaves (PointsChange s) := by
  unfold calibrateRef
  split
  · exact leaves_onRef fun _ _ _ => leaves_require fun _ => leaves_require fun _ =>
      .kept (callCalibration_points ..) (callCalibration_tagMap ..)
  · trivial

theorem readRef_pointsChange (s : State) (source : Byte) (payload : List Byte) :
    (readRef source payload s).Leaves (PointsChange s) := by
  unfold readRef
  split
  · exact leaves_onRef fun _ _ _ => .kept rfl rfl
  · trivial

theorem retireRef_pointsChange (s : State) (source : Byte) (payload : List Byte) :
    (retireRef source payload s).Leaves (PointsChange s) := by
  unfold retireRef
  split
  · refine leaves_onRef fun _ _ _ => leaves_require fun _ => leaves_require fun _ => ?_
    rw [State.emptyRef, abortJob_eq]
    exact .kept rfl rfl
  · trivial

theorem measureNow_pointsChange (s : State) (source : Byte) (payload : List Byte) :
    (measureNow source payload s).Leaves (PointsChange s) := by
  unfold measureNow
  split
  · exact leaves_onPoint fun _ _ _ => leaves_require fun _ => leaves_require fun _ => leaves_require fun _ =>
      .kept rfl rfl
  · trivial

theorem measureOwned_pointsChange (s : State) (source : Byte) (payload : List Byte) :
    (measureOwned source payload s).Leaves (PointsChange s) := by
  unfold measureOwned
  split
  · exact .kept rfl rfl
  · trivial

theorem configureDrive_pointsChange (s : State) (source : Byte) (payload : List Byte) :
    (configureDrive source payload s).Leaves (PointsChange s) := by
  unfold configureDrive
  split
  · split
    · exact leaves_onChannel fun _ => leaves_require fun _ => leaves_require fun _ => leaves_require fun _ =>
        leaves_require fun _ => .kept rfl rfl
    · trivial
  · trivial

theorem setDriveLevels_pointsChange (s : State) (source : Byte) (payload : List Byte) :
    (setDriveLevels source payload s).Leaves (PointsChange s) := by
  unfold setDriveLevels
  split
  · split
    · exact leaves_onOwnedChannel fun _ => .kept rfl rfl
    · trivial
  · trivial

theorem setManualDuty_pointsChange (s : State) (source : Byte) (payload : List Byte) :
    (setManualDuty source payload s).Leaves (PointsChange s) := by
  unfold setManualDuty
  split
  · exact leaves_onOwnedChannel fun _ => .kept rfl rfl
  · trivial

theorem setDrivePeriod_pointsChange (s : State) (source : Byte) (payload : List Byte) :
    (setDrivePeriod source payload s).Leaves (PointsChange s) := by
  unfold setDrivePeriod
  split
  · exact leaves_onOwnedChannel fun _ => leaves_require fun _ => .kept rfl rfl
  · trivial

theorem enableDrive_pointsChange (s : State) (source : Byte) (payload : List Byte) :
    (enableDrive source payload s).Leaves (PointsChange s) := by
  unfold enableDrive
  split
  · exact leaves_onOwnedChannel fun _ => leaves_require fun _ => .kept rfl rfl
  · trivial

theorem disableDrive_pointsChange (s : State) (source : Byte) (payload : List Byte) :
    (disableDrive source payload s).Leaves (PointsChange s) := by
  unfold disableDrive
  split
  · exact leaves_onOwnedChannel fun _ => .kept rfl rfl
  · trivial

theorem releaseDrive_pointsChange (s : State) (source : Byte) (payload : List Byte) :
    (releaseDrive source payload s).Leaves (PointsChange s) := by
  unfold releaseDrive
  split
  · exact leaves_onOwnedChannel fun _ => leaves_require fun _ => leaves_require fun _ => .kept rfl rfl
  · trivial

theorem readDrive_pointsChange (s : State) (source : Byte) (payload : List Byte) :
    (readDrive source payload s).Leaves (PointsChange s) := by
  unfold readDrive
  split
  · exact leaves_onChannel fun _ => .kept rfl rfl
  · trivial

theorem noticesRead_points (s : State) (source : Byte) : (s.noticesRead source).points = s.points := by
  unfold State.noticesRead
  rfl

theorem noticesRead_tagMap (s : State) (source : Byte) : (s.noticesRead source).tagMap = s.tagMap := by
  unfold State.noticesRead
  rfl

theorem readNotices_pointsChange (s : State) (source : Byte) (payload : List Byte) :
    (readNotices source payload s).Leaves (PointsChange s) := by
  unfold readNotices
  split
  · exact .kept (noticesRead_points ..) (noticesRead_tagMap ..)
  · trivial

theorem readStatus_pointsChange (s : State) (source : Byte) (payload : List Byte) :
    (readStatus source payload s).Leaves (PointsChange s) := by
  unfold readStatus
  split
  · exact .kept rfl rfl
  · trivial

theorem clearCauses_pointsChange (s : State) (source : Byte) (payload : List Byte) :
    (clearCauses source payload s).Leaves (PointsChange s) := by
  unfold clearCauses
  split
  · exact leaves_require fun _ => .kept rfl rfl
  · trivial

theorem setDevice_pointsChange (s : State) (source : Byte) (payload : List Byte) :
    (setDevice source payload s).Leaves (PointsChange s) := by
  unfold setDevice
  split
  · exact leaves_require fun _ => leaves_require fun _ => .kept rfl rfl
  · trivial

/-! ### The timed fields and the outcomes of a job -/

theorem expireDeadline_pointsChange (s : State) (p : Slot) : PointsChange s (s.expireDeadline p) := by
  unfold State.expireDeadline
  split
  · next r hr =>
    split
    · next h =>
      have hl : r.state = .live := by simp at h; exact h.1
      split
      · exact .written p r _ hr .undated rfl rfl
      · exact .written p r _ hr (.stale hl) (by simp) (by simp)
    · exact .kept rfl rfl
  · exact .kept rfl rfl

theorem expireOffer_pointsChange (s : State) (p : Slot) : PointsChange s (s.expireOffer p) := by
  unfold State.expireOffer
  split
  · next r hr =>
    split
    · refine .written p r _ hr .unoffered ?_ ?_
      · simp [apply_ite State.points, State.joinPoint]
      · simp [apply_ite State.tagMap, State.joinPoint]
    · exact .kept rfl rfl
  · exact .kept rfl rfl

theorem expireLocate_pointsChange (s : State) (p : Slot) : PointsChange s (s.expireLocate p) := by
  unfold State.expireLocate
  split
  · next r hr =>
    split
    · exact .written p r _ hr (.located none) rfl rfl
    · exact .kept rfl rfl
  · exact .kept rfl rfl

/-- A measurement outcome on a part `u` whose tables and clock are those of `s`. -/
theorem evaluateMeasurement_pointsChange (s u : State) {p : Slot} {q : Quality} (hp : u.points = s.points)
    (ht : u.tagMap = s.tagMap) (hc : u.clock = s.clock) (h : s.scheduled p) (hq : q.isValue = true) (start : Clock) (v : Half) :
    PointsChange s (u.evaluateMeasurement p start v q) := by
  unfold State.evaluateMeasurement
  split
  · next r hr =>
    rw [hp] at hr
    refine .written p r _ hr (.measured h v q hq) ?_ ?_
    · simp [apply_ite State.points, hp, hc]
    · simp [apply_ite State.tagMap, ht]
  · exact .kept hp ht

/-- A fault outcome on a part `u` whose tables are those of `s`. -/
theorem evaluateFault_pointsChange (s u : State) {p : Slot} (q : Quality) (hp : u.points = s.points)
    (ht : u.tagMap = s.tagMap) (h : s.scheduled p) (hq : q.isFault = true) (start : Clock) :
    PointsChange s (u.evaluateFault p start q) := by
  unfold State.evaluateFault
  split
  · next r hr =>
    rw [hp] at hr
    refine .written p r _ hr (.faulted h q hq) ?_ ?_
    · simp [apply_ite State.points, hp]
    · simp [apply_ite State.tagMap, ht]
  · exact .kept hp ht

theorem measuredValue_isValue (n : Half) (m : Nat) : (measuredValue n m).2.isValue = true := by
  rw [(measuredValue_eq n m).2]
  split <;> rfl

/-- A point outcome of the current job changes what it makes of the job's point. -/
theorem deliverPoint_pointsChange {s : State} {j : Job} {outcome : Slot → State → State}
    (hj : s.converter.state.job = some j) (h : ∀ p, s.scheduled p → PointsChange s (outcome p s.endPhase)) :
    PointsChange s (s.endPhase.deliverPoint j outcome) := by
  unfold State.deliverPoint
  split
  · next p hp => exact h p (.inr (by simp [State.isCurrent, hj, hp]))
  · exact .kept rfl rfl

theorem sensorOverflow_pointsChange (s : State) (frequency : Nat) : PointsChange s (s.sensorOverflow frequency) := by
  unfold State.sensorOverflow
  split
  · next j hj =>
    split
    · exact deliverPoint_pointsChange (by rw [hj]; rfl) fun p hp =>
        evaluateFault_pointsChange s s.endPhase .short rfl rfl hp rfl _
    · exact .kept rfl rfl
  · exact .kept rfl rfl

theorem windowEnd_pointsChange (s : State) (frequency : Nat) : PointsChange s (s.windowEnd frequency) := by
  unfold State.windowEnd
  split
  · next j hj =>
    dsimp only
    split
    · exact .kept rfl rfl
    · refine deliverPoint_pointsChange (by rw [hj]; rfl) fun p hp => ?_
      split
      · exact evaluateFault_pointsChange s s.endPhase .open rfl rfl hp rfl _
      · exact evaluateMeasurement_pointsChange s s.endPhase rfl rfl rfl hp (measuredValue_isValue ..) _ _
  · exact .kept rfl rfl

/-- The head entry is the entry of its record. -/
theorem scheduled_head {s : State} {e : QueueEntry} {rest : List QueueEntry} {p : Slot} (hq : s.queue = e :: rest)
    (he : e.record = .point p) : s.scheduled p :=
  .inl (by simp [State.entryOf, entryIn, hq, he])

theorem dispatched_pointsChange (s : State) : PointsChange s s.dispatched := by
  unfold State.dispatched
  split
  · next e rest _ hq =>
    split
    · unfold State.dispatchHead
      split
      · split
        · exact .kept rfl rfl
        · exact .kept rfl rfl
      · next p he =>
        split
        · split
          · split
            · exact .kept rfl rfl
            · exact .kept rfl rfl
            · exact evaluateFault_pointsChange s (s.removeEntry (.point p)) .refFault rfl rfl (scheduled_head hq he)
                rfl _
            · exact .kept rfl rfl
          · exact .kept rfl rfl
        · exact .kept rfl rfl
    · exact .kept rfl rfl
  · exact .kept rfl rfl

/-! ### The events that keep the tables -/

theorem applyCount_pointsChange (s u : State) (hp : u.points = s.points) (ht : u.tagMap = s.tagMap) (r : RefId)
    (t : BitVec 22) : PointsChange s (u.applyCount r t) := by
  unfold State.applyCount
  split
  · refine .kept ?_ ?_
    · simp [apply_ite State.points, State.joinRef, hp]
    · simp [apply_ite State.tagMap, State.joinRef, ht]
  · exact .kept hp ht

theorem applyRefFault_pointsChange (s u : State) (hp : u.points = s.points) (ht : u.tagMap = s.tagMap) (r : RefId)
    (f : RefFault) : PointsChange s (u.applyRefFault r f) := by
  unfold State.applyRefFault
  split
  · refine .kept ?_ ?_
    · simp [apply_ite State.points, State.joinRef, hp]
    · simp [apply_ite State.tagMap, State.joinRef, ht]
  · exact .kept hp ht

theorem deliverRef_pointsChange {s : State} {j : Job} {outcome : RefId → State → State}
    (h : ∀ r, PointsChange s (outcome r s.endPhase)) : PointsChange s (s.endPhase.deliverRef j outcome) := by
  unfold State.deliverRef
  split
  · exact h _
  · exact .kept rfl rfl

theorem countComplete_pointsChange (s : State) (frequency : Nat) : PointsChange s (s.countComplete frequency) := by
  unfold State.countComplete
  split
  · split
    · refine deliverRef_pointsChange fun r => ?_
      split
      · exact applyCount_pointsChange s s.endPhase rfl rfl _ _
      · exact applyRefFault_pointsChange s s.endPhase rfl rfl _ _
    · exact .kept rfl rfl
  · exact .kept rfl rfl

theorem timeBaseLimit_pointsChange (s : State) (frequency : Nat) : PointsChange s (s.timeBaseLimit frequency) := by
  unfold State.timeBaseLimit
  split
  · split
    · exact .kept rfl rfl
    · exact deliverRef_pointsChange fun r => applyRefFault_pointsChange s s.endPhase rfl rfl _ _
  · exact .kept rfl rfl

theorem returnRef_pointsChange (s u : State) (hp : u.points = s.points) (ht : u.tagMap = s.tagMap) (r : RefId)
    (due : Clock) : PointsChange s (u.returnRef r due) := by
  unfold State.returnRef
  split
  · refine .kept ?_ ?_
    · simp [apply_ite State.points, hp]
    · simp [apply_ite State.tagMap, ht]
  · exact .kept hp ht

theorem latchSupply_pointsChange (s : State) (vdda : Nat) : PointsChange s (s.latchSupply vdda) := by
  unfold State.latchSupply
  split
  · next j _ =>
    split
    · unfold State.enterPhase
      split <;> exact .kept rfl rfl
    · unfold State.returnUnrun
      dsimp only
      split
      · exact (returnRef_pointsChange s (s.setConverter { s.converter with state := .hold }) rfl rfl _ _).congr
          rfl rfl
      · exact .kept rfl rfl
  · exact .kept rfl rfl

theorem endHold_pointsChange (s : State) : PointsChange s s.endHold := by
  unfold State.endHold
  split <;> exact .kept rfl rfl

theorem atBoundary_pointsChange (s : State) (c : ChannelId) : PointsChange s (s.atBoundary c) := by
  unfold State.atBoundary
  split <;> exact .kept rfl rfl

theorem atDuty_pointsChange (s : State) (c : ChannelId) : PointsChange s (s.atDuty c) := by
  unfold State.atDuty
  split <;> exact .kept rfl rfl

theorem dimEnded_pointsChange (s : State) (c : Column) : PointsChange s (s.dimEnded c) := by
  unfold State.dimEnded
  split <;> exact .kept rfl rfl

theorem blanked_pointsChange (s : State) : PointsChange s s.blanked := by
  unfold State.blanked
  split <;> exact .kept rfl rfl

theorem echoed_pointsChange (s : State) (data : Byte) (mark stop : Bool) : PointsChange s (s.echoed data mark stop) := by
  unfold State.echoed
  split
  · exact .kept rfl rfl
  · split
    · split <;> exact .kept rfl rfl
    · exact .kept rfl rfl

/-! ### Every row -/

theorem complete_pointsChange {code : Byte} {command : Byte → List Byte → State → Answer} {s t : State}
    (h : complete code command s = .next t)
    (hc : ∀ source payload, s.commandedBy source → (command source payload s).Leaves (PointsChange s)) :
    PointsChange s t :=
  complete_keeps h (.kept rfl rfl) (fun _ _ hu => hu.congr rfl rfl) fun f hf => hc f.source f.payload ⟨f, hf, rfl⟩

theorem running_pointsChange {s t u : State} (h : running s t = .next u) (ht : PointsChange s t) : PointsChange s u :=
  running_keeps h (.kept rfl rfl) ht

theorem execUnknownCommand_pointsChange {s t : State} (h : execUnknownCommand s = .next t) : PointsChange s t := by
  unfold execUnknownCommand at h
  split at h
  · split at h <;> exact Host.Outcome.next.inj h ▸ .kept rfl rfl
  · exact Host.Outcome.next.inj h ▸ .kept rfl rfl

theorem execResetRelease_pointsChange {addr : BitVec 3} {rate : BitVec 2} {s t : State}
    (h : execResetRelease addr rate s = .next t) : PointsChange s t := by
  unfold execResetRelease at h
  split at h
  · exact Host.Outcome.next.inj h ▸ .cleared rfl rfl
  · exact Host.Outcome.next.inj h ▸ .kept rfl rfl

/-- What any row can make of the point table and the tag map. -/
theorem exec_pointsChange {c : Instr} {s t : State} (h : exec c s = .next t) : PointsChange s t := by
  cases c with
  | definePoint => exact complete_pointsChange h fun _ payload hs => definePoint_pointsChange hs payload
  | amendPoint => exact complete_pointsChange h fun _ _ _ => amendPoint_pointsChange ..
  | startPoint => exact complete_pointsChange h fun _ _ _ => startPoint_pointsChange ..
  | stopPoint => exact complete_pointsChange h fun _ _ _ => stopPoint_pointsChange ..
  | retirePoint => exact complete_pointsChange h fun _ _ _ => retirePoint_pointsChange ..
  | readPoint => exact complete_pointsChange h fun _ _ _ => readPoint_pointsChange ..
  | findTag => exact complete_pointsChange h fun _ _ _ => findTag_pointsChange ..
  | listPoints => exact complete_pointsChange h fun _ _ _ => listPoints_pointsChange ..
  | offerPoint => exact complete_pointsChange h fun _ _ _ => offerPoint_pointsChange ..
  | withdrawOffer => exact complete_pointsChange h fun _ _ _ => withdrawOffer_pointsChange ..
  | takePoint => exact complete_pointsChange h fun _ payload hs => takePoint_pointsChange hs payload
  | assignOwner => exact complete_pointsChange h fun _ _ _ => assignOwner_pointsChange ..
  | defineRef => exact complete_pointsChange h fun _ _ _ => defineRef_pointsChange ..
  | amendRef => exact complete_pointsChange h fun _ _ _ => amendRef_pointsChange ..
  | calibrateRef => exact complete_pointsChange h fun _ _ _ => calibrateRef_pointsChange ..
  | readRef => exact complete_pointsChange h fun _ _ _ => readRef_pointsChange ..
  | retireRef => exact complete_pointsChange h fun _ _ _ => retireRef_pointsChange ..
  | measureNow => exact complete_pointsChange h fun _ _ _ => measureNow_pointsChange ..
  | measureOwned => exact complete_pointsChange h fun _ _ _ => measureOwned_pointsChange ..
  | configureDrive => exact complete_pointsChange h fun _ _ _ => configureDrive_pointsChange ..
  | setDriveLevels => exact complete_pointsChange h fun _ _ _ => setDriveLevels_pointsChange ..
  | setDrivePeriod => exact complete_pointsChange h fun _ _ _ => setDrivePeriod_pointsChange ..
  | setManualDuty => exact complete_pointsChange h fun _ _ _ => setManualDuty_pointsChange ..
  | enableDrive => exact complete_pointsChange h fun _ _ _ => enableDrive_pointsChange ..
  | disableDrive => exact complete_pointsChange h fun _ _ _ => disableDrive_pointsChange ..
  | releaseDrive => exact complete_pointsChange h fun _ _ _ => releaseDrive_pointsChange ..
  | readDrive => exact complete_pointsChange h fun _ _ _ => readDrive_pointsChange ..
  | locatePoint => exact complete_pointsChange h fun _ _ _ => locatePoint_pointsChange ..
  | readNotices => exact complete_pointsChange h fun _ _ _ => readNotices_pointsChange ..
  | readStatus => exact complete_pointsChange h fun _ _ _ => readStatus_pointsChange ..
  | clearCauses => exact complete_pointsChange h fun _ _ _ => clearCauses_pointsChange ..
  | setDevice => exact complete_pointsChange h fun _ _ _ => setDevice_pointsChange ..
  | clearTables => exact complete_pointsChange h fun _ _ _ => clearTables_pointsChange ..
  | unknownCommand => exact execUnknownCommand_pointsChange h
  | hardwareReset => exact Host.Outcome.next.inj h ▸ .cleared rfl rfl
  | resetRelease addr rate => exact execResetRelease_pointsChange h
  | scheduleClockStep => exact running_pointsChange h (.kept rfl rfl)
  | fallingDue => exact running_pointsChange h (.kept rfl rfl)
  | offerExpiry slot => exact running_pointsChange h (expireOffer_pointsChange s slot)
  | locateExpiry slot => exact running_pointsChange h (expireLocate_pointsChange s slot)
  | freshnessDeadlineExpiry slot => exact running_pointsChange h (expireDeadline_pointsChange s slot)
  | dispatch => exact running_pointsChange h (dispatched_pointsChange s)
  | supplyCheckLatch vdda => exact running_pointsChange h (latchSupply_pointsChange s vdda)
  | holdExpiry => exact running_pointsChange h (endHold_pointsChange s)
  | referenceCountComplete frequency => exact running_pointsChange h (countComplete_pointsChange s frequency)
  | referenceTimeBaseLimit frequency => exact running_pointsChange h (timeBaseLimit_pointsChange s frequency)
  | sensorCountOverflow frequency => exact running_pointsChange h (sensorOverflow_pointsChange s frequency)
  | sensorWindowEnd frequency => exact running_pointsChange h (windowEnd_pointsChange s frequency)
  | periodBoundary channel => exact running_pointsChange h (atBoundary_pointsChange s channel)
  | rowSlotStart => exact running_pointsChange h (.kept rfl rfl)
  | cellOnTimeEnd column => exact running_pointsChange h (dimEnded_pointsChange s column)
  | blankingGap => exact running_pointsChange h (blanked_pointsChange s)
  | addressCharacter value => exact running_pointsChange h (.kept rfl rfl)
  | dataCharacter value => exact running_pointsChange h (.kept rfl rfl)
  | stopBitError data mark => exact running_pointsChange h (.kept rfl rfl)
  | idleGap => exact running_pointsChange h (.kept rfl rfl)
  | lineBreak => exact running_pointsChange h (.kept rfl rfl)
  | lineRise => exact running_pointsChange h (.kept rfl rfl)
  | turnaroundEnd => exact running_pointsChange h (.kept rfl rfl)
  | characterEcho data mark stop => exact running_pointsChange h (echoed_pointsChange s data mark stop)
  | driveDutyCount channel => exact running_pointsChange h (atDuty_pointsChange s channel)

/-! ### The tag map agrees with the point table (R4) -/

/-- A table read after one of its places is written. -/
theorem getElem_setFin {α : Type} {n : Nat} (v : Vector α n) (p q : Fin n) (x : α) :
    (v.set p x)[q] = if q = p then x else v[q] := by
  simp only [Fin.getElem_fin, Vector.getElem_set, Fin.ext_iff, eq_comm]

theorem RecordChange.tag {s : State} {p : Slot} {r n : PointRecord} (h : RecordChange s p r n) : n.tag = r.tag := by
  cases h <;> rfl

/-- The tag map is the tags of the point table, so writing a record with the tag of the slot keeps it (R4). -/
theorem TagsAgree.written {s t : State} {p : Slot} {r n : PointRecord} (h : s.TagsAgree) (hr : s.points[p] = some r)
    (hn : n.tag = r.tag) (hp : t.points = s.points.set p (some n)) (ht : t.tagMap = s.tagMap) : t.TagsAgree := by
  obtain ⟨hmap, hone⟩ := h
  refine ⟨fun q => ?_, by rw [ht]; exact hone⟩
  rw [ht, hp, getElem_setFin, hmap q]
  split
  · next e => simp [e, hr, hn]
  · rfl

/-- A record with a tag that no other slot has takes its slot and its place in the map (R4). -/
theorem TagsAgree.entered {s t : State} {p : Slot} {n : PointRecord} (h : s.TagsAgree)
    (hu : ∀ q : Slot, q ≠ p → s.tagMap[q] ≠ some n.tag) (hp : t.points = s.points.set p (some n))
    (ht : t.tagMap = s.tagMap.set p (some n.tag)) : t.TagsAgree := by
  obtain ⟨hmap, hone⟩ := h
  constructor
  · intro q
    rw [ht, hp, getElem_setFin, getElem_setFin, hmap q]
    split <;> rfl
  · intro a b ha hab
    rw [ht, getElem_setFin] at ha
    rw [ht, getElem_setFin, getElem_setFin] at hab
    by_cases hap : a = p <;> by_cases hbp : b = p
    · rw [hap, hbp]
    · simp only [hap, hbp, if_true, if_false] at hab
      exact absurd hab.symm (hu b hbp)
    · simp only [hap, hbp, if_true, if_false] at hab
      exact absurd hab (hu a hap)
    · simp only [hap, hbp, if_false] at ha hab
      exact hone a b ha hab

/-- A point leaves its slot and the map (R4). -/
theorem TagsAgree.retired {s t : State} {p : Slot} (h : s.TagsAgree) (hp : t.points = s.points.set p none)
    (ht : t.tagMap = s.tagMap.set p none) : t.TagsAgree := by
  obtain ⟨hmap, hone⟩ := h
  constructor
  · intro q
    rw [ht, hp, getElem_setFin, getElem_setFin, hmap q]
    split <;> rfl
  · intro a b ha hab
    rw [ht, getElem_setFin] at ha
    rw [ht, getElem_setFin, getElem_setFin] at hab
    have hap : a ≠ p := by rintro rfl; simp at ha
    simp only [hap, if_false] at ha hab
    have hbp : b ≠ p := by rintro rfl; simp [hab] at ha
    simp only [hbp, if_false] at hab
    exact hone a b ha hab

theorem tagElsewhere_eq_false_iff (s : State) (t : Half) (p : Slot) :
    s.tagElsewhere t p = false ↔ ∀ q : Slot, q ≠ p → s.tagMap[q] ≠ some t := by
  simp [State.tagElsewhere]

theorem PointsChange.tagsAgree {s t : State} (h : PointsChange s t) (hs : s.TagsAgree) : t.TagsAgree := by
  cases h with
  | kept hp ht => simpa only [State.TagsAgree, hp, ht] using hs
  | written p r n hr hn hp ht => exact TagsAgree.written hs hr hn.tag hp ht
  | defined p f source hv hc hf hb hu hp ht =>
    exact TagsAgree.entered (n := definedRecord f source) hs (fun q _ => (slotOfTag_isNone s f.tag).mp hu q) hp ht
  | amended p r mask f hr hl hf hb hu hp ht =>
    by_cases he : (amendedRecord mask f r).tag = r.tag
    · exact TagsAgree.written hs hr he hp (by simpa [he] using ht)
    · have htag : (amendedRecord mask f r).tag = if mask.getLsbD 0 = true then f.tag else r.tag := rfl
      cases hm : mask.getLsbD 0 with
      | false =>
        rw [htag, hm] at he
        exact absurd rfl he
      | true =>
        rw [hm, if_pos rfl] at htag
        have hfree : s.tagElsewhere f.tag p = false := by rw [hm] at hu; simpa using hu
        exact TagsAgree.entered hs (htag ▸ (tagElsewhere_eq_false_iff s f.tag p).mp hfree) hp (by simpa [he] using ht)
  | retired p hp ht => exact TagsAgree.retired hs hp ht
  | cleared hp ht => simp [State.TagsAgree, hp, ht]

/-- Settles O5: each way in which a row changes the point table changes the tag map with it. -/
theorem tagsAgreeAfterEveryStep : Obligations.TagsAgreeAfterEveryStep := by
  intro s t hs h
  rcases step_next h with rfl | ⟨c, rest, -, h⟩
  · exact hs
  · exact (exec_pointsChange h).tagsAgree hs

/-! ### The checks on the definition fields as propositions -/

/-- A test on a field that may be absent. -/
theorem absent_or_iff (present passes : Bool) : (!present || passes) = true ↔ (present = true → passes = true) := by
  cases present <;> simp

/-- The range check, field by field (R8 check 6, R12 check 6). -/
theorem fieldsInRange_iff (present : Nat → Bool) (f : PointFields) :
    fieldsInRange present f = true ↔
      (present 0 = true → f.tag ≠ 0) ∧ (present 1 = true → f.input.toNat ≤ 15) ∧ (present 3 = true → f.interval ≠ 0) ∧
      (present 4 = true → 2 ≤ f.staleFactor.toNat ∧ f.staleFactor.toNat ≤ 15) ∧
      (present 5 = true → 1 ≤ f.faultLimit.toNat ∧ f.faultLimit.toNat ≤ 15) ∧
      (present 8 = true → f.hysteresis.toNat ≤ 32767) ∧ (present 9 = true → f.notify.toNat ≤ 1) := by
  simp only [fieldsInRange, flagCoded, absent_or_iff, Bool.and_eq_true, bne_iff_ne, decide_eq_true_eq, Nat.lt_succ_iff,
    and_assoc]

/-! ### Every point record stays sound (R3, R120, R124, R130, R35) -/

/-- What `PointRecord.sound` says, clause by clause. -/
structure PointRecord.Sound (r : PointRecord) : Prop where
  owner : 1 ≤ r.owner.toNat ∧ r.owner.toNat ≤ 15
  fields : r.fieldsInRange
  band : r.bandFits
  health : r.healthPair = true
  ungraded : r.quality = .none → r.lastValue = none
  value : r.quality.isValue = true → r.lastValue.isSome = true
  timed : r.lastValue.isSome = r.resultTime.isSome
  counting : r.state = .live → r.faults < r.faultLimit.toNat
  undated : r.state ≠ .live → r.deadline = none
  counted : r.faults ≤ 15
  offers : ∀ o ∈ r.offer, 1 ≤ o.recipient.toNat ∧ o.recipient.toNat ≤ 15 ∧ o.recipient ≠ r.owner

theorem inRange_iff (r : PointRecord) :
    r.inRange = true ↔ (1 ≤ r.owner.toNat ∧ r.owner.toNat ≤ 15) ∧ r.fieldsInRange ∧ r.bandFits := by
  simp only [PointRecord.inRange, PointRecord.fieldsInRange, Bool.and_eq_true, decide_eq_true_eq, bne_iff_ne,
    bandConstraints_iff]
  tauto

theorem sound_iff (r : PointRecord) : r.sound = true ↔ r.Sound := by
  have hoffer : r.offer.all (fun o => decide (1 ≤ o.recipient.toNat) && decide (o.recipient.toNat ≤ 15) &&
      o.recipient != r.owner) = true ↔
      ∀ o ∈ r.offer, 1 ≤ o.recipient.toNat ∧ o.recipient.toNat ≤ 15 ∧ o.recipient ≠ r.owner := by
    cases r.offer <;> simp [and_assoc]
  simp only [PointRecord.sound, Bool.and_eq_true, Bool.or_eq_true, inRange_iff, hoffer, decide_eq_true_eq, bne_iff_ne,
    beq_iff_eq, Bool.not_eq_true', Option.isNone_iff_eq_none]
  constructor
  · rintro ⟨⟨⟨⟨⟨⟨⟨⟨⟨ho, hf, hb⟩, hh⟩, hn⟩, hv⟩, ht⟩, hc⟩, hd⟩, h15⟩, hof⟩
    exact ⟨ho, hf, hb, hh, by tauto, fun h => hv.resolve_left (by simp [h]), ht, by tauto, by tauto, h15, hof⟩
  · rintro ⟨ho, hf, hb, hh, hn, hv, ht, hc, hd, h15, hof⟩
    have hv' : r.quality.isValue = false ∨ r.lastValue.isSome = true :=
      (Bool.eq_false_or_eq_true _).elim (fun e => .inr (hv e)) .inl
    exact ⟨⟨⟨⟨⟨⟨⟨⟨⟨ho, hf, hb⟩, hh⟩, by tauto⟩, hv'⟩, ht⟩, by tauto⟩, by tauto⟩, h15⟩, hof⟩

/-- A judged value has an alarm state that goes with a value (Table 6-3). -/
theorem judge_eq (r : PointRecord) (v : Half) : judge r v = .normal ∨ judge r v = .low ∨ judge r v = .high := by
  have hc : classify r v = .normal ∨ classify r v = .low ∨ classify r v = .high := by
    unfold classify
    split
    · simp
    · split <;> simp
  unfold judge
  split
  · exact hc
  · exact hc
  · exact hc
  · split
    · split <;> simp
    · simp
  · split
    · split <;> simp
    · simp

theorem healthPair_value {r : PointRecord} (hs : r.state = .live) (hq : r.quality.isValue = true)
    (ha : r.alarm = .normal ∨ r.alarm = .low ∨ r.alarm = .high) : r.healthPair = true := by
  rcases ha with ha | ha | ha <;> simp [PointRecord.healthPair, hs, ha, hq]

theorem healthPair_fault {r : PointRecord} (hs : r.state ≠ .dormant) (hq : r.quality.isFault = true)
    (ha : r.alarm = .fault) : r.healthPair = true := by
  cases h : r.state with
  | dormant => exact absurd h hs
  | live => simp [PointRecord.healthPair, h, ha, hq]
  | held => simp [PointRecord.healthPair, h, ha, hq]

theorem isFault_not_none {q : Quality} (h : q.isFault = true) : q ≠ .none := by
  rintro rfl
  cases h

theorem isFault_not_value {q : Quality} (h : q.isFault = true) : q.isValue ≠ true := by
  cases q <;> simp_all [Quality.isFault, Quality.isValue]

namespace PointRecord.Sound

theorem faultLimit_pos {r : PointRecord} (h : r.Sound) : 0 < r.faultLimit.toNat := by
  obtain ⟨-, -, -, -, h1, -⟩ := h.fields
  omega

theorem faultLimit_le {r : PointRecord} (h : r.Sound) : r.faultLimit.toNat ≤ 15 := by
  obtain ⟨-, -, -, -, -, h15⟩ := h.fields
  exact h15

theorem started {r : PointRecord} (h : r.Sound) (deadline : Clock) :
    ({ r with state := .live, faults := 0, alarm := .unknown, deadline := some deadline } : PointRecord).Sound :=
  { h with
    health := rfl
    counting := fun _ => h.faultLimit_pos
    undated := fun e => absurd rfl e
    counted := Nat.zero_le 15 }

theorem stopped {r : PointRecord} (h : r.Sound) :
    ({ r with state := .dormant, alarm := .unknown, deadline := none } : PointRecord).Sound :=
  { h with
    health := rfl
    counting := fun e => by cases e
    undated := fun _ => rfl }

/-- A HELD point has no deadline, so it is dropped as a LIVE one is stopped. -/
theorem dropped {r : PointRecord} (h : r.Sound) (hs : r.state = .held) :
    ({ r with state := .dormant, alarm := .unknown } : PointRecord).Sound :=
  { h with
    health := rfl
    counting := fun e => by cases e
    undated := fun _ => h.undated (by simp [hs]) }

theorem moved {r : PointRecord} (h : r.Sound) {owner : Byte} (ho : 1 ≤ owner.toNat ∧ owner.toNat ≤ 15) :
    ({ r with owner := owner, offer := if r.offer.any (fun o => o.recipient == owner) then none else r.offer } :
      PointRecord).Sound :=
  { h with
    owner := ho
    offers := by
      dsimp only
      split
      · simp
      · next hno =>
        intro o hmem
        obtain ⟨h1, h15, -⟩ := h.offers o hmem
        refine ⟨h1, h15, fun e => hno ?_⟩
        rw [Option.mem_def.mp hmem]
        simpa using e }

theorem measured {r : PointRecord} (h : r.Sound) (hl : r.state = .live) (v : Half) {q : Quality} (hq : q.isValue = true)
    (now : Clock) : (measuredRecord r v q now).Sound :=
  { h with
    health := healthPair_value hl hq (judge_eq r v)
    ungraded := by rintro rfl; cases hq
    value := fun _ => rfl
    timed := rfl
    counting := fun _ => h.faultLimit_pos
    undated := fun e => absurd hl e
    counted := Nat.zero_le 15 }

/-- A fault outcome counts one fault more; at the limit the point is HELD without a deadline (R119, R120). -/
theorem faulted {r : PointRecord} (h : r.Sound) (hl : r.state = .live) {q : Quality} (hq : q.isFault = true) :
    (faultedRecord r q).Sound := by
  have hcount := h.counting hl
  have hle := h.faultLimit_le
  by_cases hlim : r.faultLimit.toNat ≤ r.faults + 1
  · have hr : faultedRecord r q =
        { r with state := .held, quality := q, faults := r.faults + 1, alarm := .fault, deadline := none } := by
      simp [faultedRecord, reachesLimit, hlim]
    rw [hr]
    exact { h with
      health := healthPair_fault (by simp) hq rfl
      ungraded := fun e => absurd e (isFault_not_none hq)
      value := fun e => absurd e (isFault_not_value hq)
      counting := fun e => by cases e
      undated := fun _ => rfl
      counted := by show r.faults + 1 ≤ 15; omega }
  · have hr : faultedRecord r q = { r with quality := q, faults := r.faults + 1, alarm := .fault } := by
      simp [faultedRecord, reachesLimit, hlim]
    rw [hr]
    exact { h with
      health := healthPair_fault (by simp [hl]) hq rfl
      ungraded := fun e => absurd e (isFault_not_none hq)
      value := fun e => absurd e (isFault_not_value hq)
      counting := fun _ => by show r.faults + 1 < r.faultLimit.toNat; omega
      undated := fun e => absurd hl e
      counted := by show r.faults + 1 ≤ 15; omega }

theorem stale {r : PointRecord} (h : r.Sound) (hl : r.state = .live) :
    ({ r with quality := .stale, alarm := .fault, deadline := none } : PointRecord).Sound :=
  { h with
    health := by simp [PointRecord.healthPair, hl, Quality.isFault]
    ungraded := fun e => by cases e
    value := fun e => by cases e
    undated := fun _ => rfl }

end PointRecord.Sound

/-- The record that DEFINE_POINT fills in from fields that pass its checks (R8, R9). -/
theorem definedRecord_sound {f : PointFields} {source : Byte} (ho : 1 ≤ source.toNat ∧ source.toNat ≤ 15)
    (hf : fieldsInRange (fun _ => true) f = true) (hb : bandConstraints f.bandLow f.bandHigh f.hysteresis = true) :
    (definedRecord f source).Sound := by
  have hfields : (definedRecord f source).fieldsInRange := by
    obtain ⟨htag, -, hint, hstale, hlim, -, -⟩ := (fieldsInRange_iff _ f).mp hf
    obtain ⟨h2, h15⟩ := hstale rfl
    exact ⟨htag rfl, hint rfl, h2, h15, hlim rfl⟩
  exact {
    owner := ho
    fields := hfields
    band := (bandConstraints_iff (definedRecord f source)).mp hb
    health := rfl
    ungraded := fun _ => rfl
    value := fun e => by cases e
    timed := rfl
    counting := fun e => by cases e
    undated := fun _ => rfl
    counted := Nat.zero_le 15
    offers := by simp [definedRecord] }

/-- What is true of a field where it is present, and of the record where it is absent, is true of the amended field (R11). -/
theorem present_keeps {present : Bool} {α : Type} {P : α → Prop} {x y : α} (hx : present = true → P x) (hy : P y) :
    P (if present = true then x else y) := by
  split
  · next h => exact hx h
  · exact hy

/-- Fields that are in range where they are present amend a record in range to a record in range (R12 check 6). -/
theorem amendedRecord_fieldsInRange {mask : Half} {f : PointFields} {r : PointRecord} (h : r.fieldsInRange)
    (hf : fieldsInRange mask.getLsbD f = true) : (amendedRecord mask f r).fieldsInRange := by
  obtain ⟨htag, -, hint, hstale, hlim, -, -⟩ := (fieldsInRange_iff _ f).mp hf
  obtain ⟨rtag, rint, rstale2, rstale15, rlim1, rlim15⟩ := h
  exact ⟨present_keeps (P := (· ≠ 0)) htag rtag, present_keeps (P := (· ≠ 0)) hint rint,
    present_keeps (P := fun v : Byte => 2 ≤ v.toNat) (fun h => (hstale h).1) rstale2,
    present_keeps (P := fun v : Byte => v.toNat ≤ 15) (fun h => (hstale h).2) rstale15,
    present_keeps (P := fun v : Byte => 1 ≤ v.toNat) (fun h => (hlim h).1) rlim1,
    present_keeps (P := fun v : Byte => v.toNat ≤ 15) (fun h => (hlim h).2) rlim15⟩

theorem amendedRecord_sound {mask : Half} {f : PointFields} {r : PointRecord} (h : r.Sound)
    (hl : (!(r.state == .live && staticPresent mask)) = true) (hf : fieldsInRange mask.getLsbD f = true)
    (hb : (mask == 0 || bandConstraints (amendedRecord mask f r).bandLow (amendedRecord mask f r).bandHigh
      (amendedRecord mask f r).hysteresis) = true) : (amendedRecord mask f r).Sound :=
  { h with
    fields := amendedRecord_fieldsInRange h.fields hf
    band := by
      rcases (Bool.or_eq_true _ _).mp hb with h0 | h0
      · rw [eq_of_beq h0]
        simpa [amendedRecord, PointRecord.bandFits] using h.band
      · exact (bandConstraints_iff _).mp h0
    counting := fun e => by
      have hlimit : (amendedRecord mask f r).faultLimit = r.faultLimit := by
        have hs : r.state = .live := e
        simp [hs, staticPresent] at hl
        simp [amendedRecord, hl]
      rw [hlimit]
      exact h.counting e }

/-- A scheduled point is LIVE (R96). -/
theorem live_of_scheduled {s : State} {p : Slot} {r : PointRecord} (h : s.ScheduleSound) (hp : s.scheduled p)
    (hr : s.points[p] = some r) : r.state = .live := by
  obtain ⟨-, -, -, hlive, -⟩ := h
  have hp' := hlive p
  rw [(Bool.or_eq_true _ _).mpr hp, State.isLive, hr] at hp'
  simpa using hp'.symm

/-- A controller that commands the part has an ID of 1-15 (R27). -/
theorem commandedBy_range {s : State} {source : Byte} (h : s.SourceSound) (hc : s.commandedBy source) :
    1 ≤ source.toNat ∧ source.toNat ≤ 15 := by
  obtain ⟨f, hf, rfl⟩ := hc
  exact h f hf

theorem RecordChange.sound {s : State} {p : Slot} {r n : PointRecord} (hn : RecordChange s p r n) (hsched : s.ScheduleSound)
    (hsrc : s.SourceSound) (hr : s.points[p] = some r) (h : r.Sound) : n.Sound := by
  cases hn with
  | started deadline => exact h.started deadline
  | stopped => exact h.stopped
  | dropped hs => exact h.dropped hs
  | located locate => exact { h with }
  | offered o ho => exact { h with offers := by simpa using ho }
  | unoffered => exact { h with offers := by simp }
  | moved owner ho => exact h.moved (ho.elim (commandedBy_range hsrc) id)
  | measured hp v q hq => exact h.measured (live_of_scheduled hsched hp hr) v hq s.clock
  | faulted hp q hq => exact h.faulted (live_of_scheduled hsched hp hr) hq
  | undated => exact { h with undated := fun _ => rfl }
  | stale hl => exact h.stale hl

/-- A table stays sound when a sound record, or none, is written to one of its slots. -/
theorem PointsSound.set {s t : State} {p : Slot} {x : Option PointRecord} (h : s.PointsSound) (hx : ∀ n ∈ x, n.Sound)
    (hp : t.points = s.points.set p x) : t.PointsSound := by
  intro q n hn
  rw [hp, getElem_setFin] at hn
  split at hn
  · exact (sound_iff n).mpr (hx n hn)
  · exact h q n hn

theorem PointsChange.pointsSound {s t : State} (h : PointsChange s t) (hsched : s.ScheduleSound) (hsrc : s.SourceSound)
    (hs : s.PointsSound) : t.PointsSound := by
  cases h with
  | kept hp ht => simpa only [State.PointsSound, hp] using hs
  | written p r n hr hn hp ht =>
    exact PointsSound.set hs (by simpa using hn.sound hsched hsrc hr ((sound_iff r).mp (hs p r hr))) hp
  | defined p f source hv hc hf hb hu hp ht =>
    exact PointsSound.set hs (by simpa using definedRecord_sound (commandedBy_range hsrc hc) hf hb) hp
  | amended p r mask f hr hl hf hb hu hp ht =>
    exact PointsSound.set hs (by simpa using amendedRecord_sound ((sound_iff r).mp (hs p r hr)) hl hf hb) hp
  | retired p hp ht => exact PointsSound.set hs (by simp) hp
  | cleared hp ht => simp [State.PointsSound, hp]

/-- Settles O11: each way in which a row changes a record leads from a sound record to a sound record. -/
theorem pointsSoundAfterEveryStep : Obligations.PointsSoundAfterEveryStep := by
  intro s t hsched hsrc hs h
  rcases step_next h with rfl | ⟨c, rest, -, h⟩
  · exact hs
  · exact (exec_pointsChange h).pointsSound hsched hsrc hs

end Sys2Proof.Machine

/-! SUPPORT. START_POINT, STOP_POINT, RETIRE_POINT, READ_POINT, FIND_TAG and LIST_POINTS: what each completes to. -/

namespace Sys2Proof.Machine

/-! ### The completion of a command, from what its executor answers -/

/-- A command answered OK: the part as the command leaves it, with the reply placed (R182). -/
theorem completes_ok {c : Instr} {code : Byte} {command : Byte → List Byte → State → Answer} {s t : State} {kind : FrameKind}
    {source : Byte} {payload reply : List Byte} (hc : exec c s = complete code command s)
    (h : s.holds kind source code payload) (ha : command source payload s = .ok t reply) (ht : t.port = s.port) :
    exec c s = .next { t with port := s.answered kind source 0x00 reply } := by
  rw [hc, complete_holds h, ha, finish_ok ht]

/-- A command that is refused: the reply alone (R188). -/
theorem completes_refused {c : Instr} {code : Byte} {command : Byte → List Byte → State → Answer} {s : State}
    {kind : FrameKind} {source k : Byte} {payload : List Byte} (hc : exec c s = complete code command s)
    (h : s.holds kind source code payload) (ha : (command source payload s).refusedWith k) :
    exec c s = .next { s with port := s.answered kind source k [] } := by
  rw [hc, complete_holds h, finish_refusedWith ha]

/-- A check that fails gives its code. -/
theorem refusedWith_require {passes : Bool} (h : passes = false) (code : ReplyCode) (rest : Answer) :
    (require passes code rest).refusedWith (replyByte code) := by
  rw [h]
  exact ⟨code, rfl, rfl⟩

theorem mayChange_iff (source owner : Byte) : mayChange source owner = true ↔ admitted source owner := by
  simp [mayChange, admitted]

theorem mayChange_of_admitted {source owner : Byte} (h : admitted source owner) : mayChange source owner = true :=
  (mayChange_iff source owner).mpr h

/-! ### FIND_TAG -/

/-- The tag map pairs a tag with one slot, so the slot of a tag is the slot that holds it (R4). -/
theorem slotOfTag_eq {s : State} (h : s.TagsAgree) {p : Slot} {t : Half} (hp : s.tagMap[p] = some t) :
    s.slotOfTag t = some p := by
  obtain ⟨-, hone⟩ := h
  cases hf : s.slotOfTag t with
  | none => exact absurd hp ((slotOfTag_isNone s t).mp (by rw [hf]; rfl) p)
  | some q =>
    have hq : s.tagMap[q] = some t := by simpa using List.find?_some hf
    rw [hone q p (by rw [hq]; rfl) (hq.trans hp.symm)]

theorem slotOfTag_eq_none {s : State} {t : Half} (h : ∀ p : Slot, s.tagMap[p] ≠ some t) : s.slotOfTag t = none :=
  Option.isNone_iff_eq_none.mp ((slotOfTag_isNone s t).mpr h)

/-- No sound point has tag 0, so the map does not hold it (R3, R4). -/
theorem tagMap_ne_zero {s : State} (h : s.TagsAgree) (hs : s.PointsSound) (p : Slot) : s.tagMap[p] ≠ some 0 := by
  obtain ⟨hmap, -⟩ := h
  rw [hmap p]
  intro h0
  obtain ⟨r, hr, htag⟩ := Option.map_eq_some_iff.mp h0
  obtain ⟨hne, -⟩ := ((sound_iff r).mp (hs p r hr)).fields
  exact hne htag

theorem findTag_found {s : State} {tag : Half} {p : Slot} (h : s.slotOfTag tag = some p) (source : Byte) :
    findTag source (be16 tag) s = .ok s [slotByte p] := by
  simp only [findTag, be16, half_be16, h]

theorem findTag_missing {s : State} {tag : Half} (h : s.slotOfTag tag = none) (source : Byte) :
    findTag source (be16 tag) s = .refuse .notFound := by
  simp only [findTag, be16, half_be16, h]

theorem findTag_badLength {source : Byte} {payload : List Byte} {s : State} (h : payload.length ≠ 2) :
    findTag source payload s = .refuse .badLength := by
  unfold findTag
  split
  · simp at h
  · rfl

/-- Settles O29: the executor reads the tag map, whose slot of a tag is unique by R4, and R3 keeps tag 0 out of it. -/
theorem findTagAnswersTheSlotOfATag : Obligations.FindTagAnswersTheSlotOfATag := by
  intro s kind source payload h
  have hmissing : ∀ tag : Half, payload = be16 tag → (∀ p : Slot, s.tagMap[p] ≠ some tag) →
      exec .findTag s = .next { s with port := s.answered kind source 0x16 [] } := by
    rintro tag rfl hno
    exact completes_refused rfl h ⟨.notFound, findTag_missing (slotOfTag_eq_none hno) source, rfl⟩
  refine ⟨?_, hmissing, fun hpay ht hs => hmissing 0 hpay (tagMap_ne_zero ht hs), fun hlen => ?_⟩
  · rintro tag p rfl ht hp
    exact completes_ok rfl h (findTag_found (slotOfTag_eq ht hp) source) rfl
  · exact completes_refused rfl h ⟨.badLength, findTag_badLength hlen, rfl⟩

/-! ### LIST_POINTS -/

theorem listed_iff (s : State) (owner input : Byte) (p : Slot) :
    s.listed owner input p = true ↔ ∃ r, s.points[p] = some r ∧ (owner = 0 ∨ r.owner = owner) ∧
      (input = 16 ∨ sensorByte r.input = input) := by
  unfold State.listed
  cases s.points[p] <;> simp

theorem listPoints_badLength {source : Byte} {payload : List Byte} {s : State} (h : payload.length ≠ 2) :
    listPoints source payload s = .refuse .badLength := by
  unfold listPoints
  split
  · simp at h
  · rfl

/-- Settles O30: the reply is the filtered list of all slots, which stands in their order. -/
theorem listPointsAnswersTheMatchingSlots : Obligations.ListPointsAnswersTheMatchingSlots := by
  intro s kind source payload h
  refine ⟨?_, ?_, fun hlen => completes_refused rfl h ⟨.badLength, listPoints_badLength hlen, rfl⟩⟩
  · rintro owner input rfl ho hi
    refine ⟨(List.finRange 48).filter (s.listed owner input), completes_ok rfl h ?_ rfl, ?_, ?_, ?_⟩
    · simp [listPoints, ho, hi, countByte]
    · exact (List.pairwise_lt_finRange 48).filter _
    · exact (List.length_filter_le _ _).trans (by simp)
    · simp [listed_iff]
  · rintro owner input rfl hout
    exact completes_refused rfl h (refusedWith_require (by simp; omega) .badValue _)

/-! ### READ_POINT -/

/-! The age is 65,535 without a result and with one that lies after now; else it is the time since the result in 10 ms units, held
to 65,535 (R23). -/

theorem age_none {r : PointRecord} (h : r.resultTime = none) (now : Clock) : (age r now).toNat = 65535 := by
  simp [age, h]

theorem age_past {r : PointRecord} {t now : Clock} (h : r.resultTime = some t) (ht : atOrBefore t now = true) :
    (age r now).toNat = min 65535 ((now - t).toNat / 10) := by
  simp only [age, h, ht, if_true, BitVec.toNat_ofNat]
  exact Nat.mod_eq_of_lt (by omega)

theorem age_future {r : PointRecord} {t now : Clock} (h : r.resultTime = some t) (ht : atOrBefore t now = false) :
    (age r now).toNat = 65535 := by
  simp [age, h, ht]

/-- Six presence bits are read back from their byte, and the bits above them are 0 (R189). -/
theorem bitsByte_six : ∀ a b c d e f : Bool,
    (bitsByte [a, b, c, d, e, f]).toNat < 64 ∧ (bitsByte [a, b, c, d, e, f]).getLsbD 0 = a ∧
    (bitsByte [a, b, c, d, e, f]).getLsbD 1 = b ∧ (bitsByte [a, b, c, d, e, f]).getLsbD 2 = c ∧
    (bitsByte [a, b, c, d, e, f]).getLsbD 3 = d ∧ (bitsByte [a, b, c, d, e, f]).getLsbD 4 = e ∧
    (bitsByte [a, b, c, d, e, f]).getLsbD 5 = f := by
  decide

theorem readPoint_slotByte {s : State} {p : Slot} {r : PointRecord} (h : s.points[p] = some r) (source : Byte) :
    readPoint source [slotByte p] s = .ok s (pointReply p r s.clock) := by
  simp only [readPoint, onPoint_some h]

/-- Settles O28: the reply is the 44 bytes in their order; what is left is the presence byte and the age. -/
theorem readPointReplyFollowsItsTable : Obligations.ReadPointReplyFollowsItsTable := by
  refine ⟨⟨rfl, rfl, rfl, rfl, fun _ => rfl, fun _ => rfl, fun _ => rfl, fun _ => rfl⟩, ?_⟩
  intro s kind source p r h hr
  refine ⟨pointReply p r s.clock, completes_ok rfl h (readPoint_slotByte hr source) rfl, ?_⟩
  simp only [pointReply, slice, be16, be32, countByte, List.cons_append, List.nil_append, List.length_cons, List.length_nil,
    List.drop_succ_cons, List.take_succ_cons, List.drop_zero, List.take_zero, Nat.reduceSub, Nat.reduceAdd, true_and]
  exact ⟨⟨_, rfl, bitsByte_six ..⟩, fun hn => age_none hn s.clock, fun t ht => ⟨age_past ht, age_future ht⟩⟩

/-! ### START_POINT, STOP_POINT, RETIRE_POINT -/

/-- The changes of START_POINT as one update of the part (R17, R98). -/
theorem start_eq {s : State} {p : Slot} {r : PointRecord} {x : RefRecord} (hx : s.refs[r.reference] = some x)
    (ho : s.ownMode r.binding) : s.start p r = { s with
      points := s.points.set p (some { r with
        state := .live, faults := 0, alarm := .unknown
        deadline := some (s.clock + r.interval.setWidth 32 * 10 * r.staleFactor.setWidth 32) })
      queue :=
        let withPoint := insertInto s.queue (.point p) s.clock s.clock
        if x.liveUsers = 0 ∧ s.isCurrent (.ref r.reference) = false
        then insertInto withPoint (.ref r.reference) (refDue x s.clock) s.clock else withPoint
      refs := s.refs.set r.reference (some { x with liveUsers := x.liveUsers + 1 })
      channels := s.channelsAsked r.binding Levels.safe } := by
  unfold State.start
  rw [gainLiveUser_some (x := x) (by exact hx), requestLevel_own (by exact ho)]
  rfl

/-- Settles O25: the executor's four operations are one update of the part. -/
theorem startPointPutsAPointUnderMeasurement : Obligations.StartPointPutsAPointUnderMeasurement := by
  intro s kind source p r x h hr hx ha ho
  have hanswer : startPoint source [slotByte p] s = require (r.state != .live) .wrongState (.ok (s.start p r) []) := by
    simp only [startPoint, onPoint_some hr, mayChange_of_admitted ha, require_true]
  constructor
  · intro hl
    rw [bne_iff_ne.mpr hl, require_true, start_eq hx ho] at hanswer
    exact completes_ok rfl h hanswer rfl
  · intro hl
    exact completes_refused rfl h (hanswer ▸ refusedWith_require (by simp [hl]) .wrongState _)

/-- A LIVE point leaves the converter and the queue, as one update of the part (R18, R20). -/
theorem withdraw_eq (s : State) (p : Slot) : s.withdraw p = { s with
    converter := if s.isCurrent (.point p) = true then Converter.reset else s.converter
    queue := removeFrom s.queue (.point p) } := by
  rw [State.withdraw, abortJob_eq]
  rfl

/-- The changes of STOP_POINT of a LIVE point as one update of the part (R18, R98). -/
theorem stopLive_eq {s : State} {p : Slot} {r : PointRecord} {x : RefRecord} (hx : s.refs[r.reference] = some x)
    (ho : s.ownMode r.binding) : s.stopLive p r = { s with
      points := s.points.set p (some { r with state := .dormant, alarm := .unknown, deadline := none })
      converter := if s.isCurrent (.point p) then { state := .idle, measurement := 0, timeBase := 0 } else s.converter
      queue :=
        let withoutPoint := removeFrom s.queue (.point p)
        if x.liveUsers = 1 ∧ x.request = false then removeFrom withoutPoint (.ref r.reference) else withoutPoint
      refs := s.refs.set r.reference (some { x with liveUsers := x.liveUsers - 1 })
      channels := s.channelsAsked r.binding Levels.safe } := by
  unfold State.stopLive
  rw [withdraw_eq, loseLiveUser_some (x := x) (by exact hx), requestLevel_own (by exact ho)]
  rfl

/-- Settles O26: by the state of the point. -/
theorem stopPointTakesAPointOutOfMeasurement : Obligations.StopPointTakesAPointOutOfMeasurement := by
  intro s kind source p r x h hr hx ha ho
  refine ⟨fun hl => ?_, fun hh => ?_, fun hd => ?_⟩
  · have hanswer : stopPoint source [slotByte p] s = .ok (s.stopLive p r) [] := by
      simp only [stopPoint, onPoint_some hr, mayChange_of_admitted ha, require_true, hl]
    rw [stopLive_eq hx ho] at hanswer
    exact completes_ok rfl h hanswer rfl
  · have hanswer : stopPoint source [slotByte p] s =
        .ok (s.setPoint p (some { r with state := .dormant, alarm := .unknown })) [] := by
      simp only [stopPoint, onPoint_some hr, mayChange_of_admitted ha, require_true, hh]
    exact completes_ok rfl h hanswer rfl
  · have hanswer : stopPoint source [slotByte p] s = .refuse .wrongState := by
      simp only [stopPoint, onPoint_some hr, mayChange_of_admitted ha, require_true, hd]
    exact completes_refused rfl h ⟨.wrongState, hanswer, rfl⟩

/-- The channels after a point has left its bound channel, if it has one (R147). -/
def State.channelsLeft (s : State) (b : Option ChannelId) : Vector DriveChannel 8 :=
  match b with
  | some c => s.channels.set c { s.channels[c] with binding := none, pendingDuty := some s.channels[c].manualDuty }
  | none => s.channels

/-- A channel in OWN mode that a point leaves is unbound, with its manual duty pending (R147). -/
theorem unbindChannel_own {s : State} {b : Option ChannelId} (h : s.ownMode b) :
    s.unbindChannel b = { s with channels := s.channelsLeft b } := by
  cases b with
  | none => rfl
  | some c =>
    simp only [State.unbindChannel, DriveChannel.left, State.channelsLeft]
    rw [request_own (by exact h c rfl)]
    rfl

/-- The changes of RETIRE_POINT as one update of the part (R20, R98). -/
theorem retire_eq {s : State} {p : Slot} {r : PointRecord} {x : RefRecord} (hx : s.refs[r.reference] = some x)
    (ho : s.ownMode r.binding) : s.retire p r = { s with
      points := s.points.set p none
      tagMap := s.tagMap.set p none
      converter :=
        if r.state = .live ∧ s.isCurrent (.point p) = true then { state := .idle, measurement := 0, timeBase := 0 }
        else s.converter
      queue :=
        if r.state = .live then
          if x.liveUsers = 1 ∧ x.request = false then removeFrom (removeFrom s.queue (.point p)) (.ref r.reference)
          else removeFrom s.queue (.point p)
        else s.queue
      refs := s.refs.set r.reference (some { x with
        users := x.users - 1, liveUsers := if r.state = .live then x.liveUsers - 1 else x.liveUsers })
      channels := s.channelsLeft r.binding
      noticePoints := s.noticePoints.set p false } := by
  unfold State.retire
  by_cases hl : r.state = .live
  · simp only [hl, beq_self_eq_true, if_true, true_and]
    rw [withdraw_eq, loseLiveUser_some (x := x) (by exact hx),
      loseUser_some (x := { x with liveUsers := x.liveUsers - 1 }) (by simp),
      unbindChannel_own (by exact ho)]
    simp [State.setPoint, State.setTag, State.leavePoint, State.setNoticePoint, Converter.reset, State.channelsLeft]
  · simp only [beq_eq_false_iff_ne.mpr hl, hl, if_false, false_and, Bool.false_eq_true]
    rw [loseUser_some (x := x) (by exact hx), unbindChannel_own (by exact ho)]
    rfl

/-- Settles O27: the operations on a LIVE point and on another one are one update of the part. -/
theorem retirePointEmptiesItsSlot : Obligations.RetirePointEmptiesItsSlot := by
  intro s kind source p r x h hr hx ha ho
  have hanswer : retirePoint source [slotByte p] s = .ok (s.retire p r) [] := by
    simp only [retirePoint, onPoint_some hr, mayChange_of_admitted ha, require_true]
  rw [retire_eq hx ho] at hanswer
  exact completes_ok rfl h hanswer rfl

end Sys2Proof.Machine

/-! SUPPORT. DEFINE_POINT and AMEND_POINT: the slot chosen, the checks in their order, the changes. -/

namespace Sys2Proof.Machine

/-! ### The slot that DEFINE_POINT fills (R10) -/

theorem lowestVacant_eq {s : State} {p : Slot} (hp : s.points[p] = none) (hlow : ∀ q : Slot, q < p → s.points[q] ≠ none) :
    s.lowestVacant = some p := by
  rw [State.lowestVacant, List.find?_eq_some_iff_getElem]
  refine ⟨by simpa using hp, p.val, by simp, by simp, fun j hj => ?_⟩
  simpa [Option.isSome_iff_ne_none] using hlow ⟨j, by omega⟩ hj

theorem lowestVacant_none {s : State} (h : ¬ ∃ p : Slot, s.points[p] = none) : s.lowestVacant = none := by
  rw [State.lowestVacant, List.find?_eq_none]
  intro p _ hp
  exact h ⟨p, by simpa using hp⟩

theorem points_of_lowestVacant_none {s : State} (h : s.lowestVacant = none) (p : Slot) : s.points[p] ≠ none := by
  rw [State.lowestVacant, List.find?_eq_none] at h
  simpa using h p (List.mem_finRange p)

/-- The lowest vacant slot is vacant, and no lower one is. -/
theorem lowestVacant_spec {s : State} {p : Slot} (h : s.lowestVacant = some p) :
    s.points[p] = none ∧ ∀ q : Slot, q < p → s.points[q] ≠ none := by
  rw [State.lowestVacant, List.find?_eq_some_iff_getElem] at h
  obtain ⟨hp, i, hi, rfl, hlow⟩ := h
  refine ⟨by simpa using hp, fun q hq => ?_⟩
  rw [List.getElem_finRange] at hq
  simpa [Option.isSome_iff_ne_none] using hlow q.val hq

theorem chosenSlot_named {s : State} {p : Slot} (hp : s.points[p] = none) (rest : Slot → Answer) :
    chosenSlot (slotByte p) s rest = rest p := by
  rw [Fin.getElem_fin] at hp
  simp [chosenSlot, hp]

theorem chosenSlot_taken {s : State} {p : Slot} {r : PointRecord} (hp : s.points[p] = some r) (rest : Slot → Answer) :
    chosenSlot (slotByte p) s rest = .refuse .slotTaken := by
  rw [Fin.getElem_fin] at hp
  simp [chosenSlot, hp]

theorem chosenSlot_lowest {s : State} {p : Slot} (hp : s.lowestVacant = some p) (rest : Slot → Answer) :
    chosenSlot 255 s rest = rest p := by
  simp [chosenSlot, hp]

theorem chosenSlot_full {s : State} (hp : s.lowestVacant = none) (rest : Slot → Answer) :
    chosenSlot 255 s rest = .refuse .tableFull := by
  simp [chosenSlot, hp]

/-- FFh is no slot. -/
theorem ne_slotByte (p : Slot) : (255 : Byte) ≠ slotByte p := by
  intro h
  have hp := congrArg BitVec.toNat h
  rw [slotByte_toNat] at hp
  have := p.isLt
  simp at hp
  omega

/-- A slot byte that DEFINE_POINT takes is FFh or names a slot. -/
theorem slot_cases {slot : Byte} (h : slot.toNat < 48 ∨ slot = 255) : slot = 255 ∨ ∃ p : Slot, slot = slotByte p :=
  h.elim (fun h => .inr ⟨⟨slot.toNat, h⟩, BitVec.eq_of_toNat_eq (by simp)⟩) .inl

/-- Check 3 of DEFINE_POINT refuses as its two checks say, and hands on the slot that the command chooses (R8, R10). -/
theorem chosenSlot_refusedWith {s : State} {slot code : Byte} {rest : Slot → Answer} {checks : List (Prop × Byte)}
    (hslot : slot.toNat < 48 ∨ slot = 255)
    (h : firstFailing ((∀ p : Slot, slot = slotByte p → s.points[p] = none, 0x13) ::
      (slot = 255 → ∃ p : Slot, s.points[p] = none, 0x15) :: checks) code)
    (hrest : ∀ p, (∀ q, s.chosen slot q ↔ q = p) → firstFailing checks code → (rest p).refusedWith code) :
    (chosenSlot slot s rest).refusedWith code := by
  rcases slot_cases hslot with rfl | ⟨p, rfl⟩
  · rcases h with ⟨hno, -⟩ | ⟨-, ⟨hno, rfl⟩ | ⟨hsome, h⟩⟩
    · exact absurd (fun p e => absurd e (ne_slotByte p)) hno
    · rw [chosenSlot_full (lowestVacant_none fun hv => hno fun _ => hv)]
      exact ⟨.tableFull, rfl, rfl⟩
    · cases hv : s.lowestVacant with
      | none =>
        obtain ⟨p, hp⟩ := hsome rfl
        exact absurd hp (points_of_lowestVacant_none hv p)
      | some p =>
        rw [chosenSlot_lowest hv]
        obtain ⟨hp, hlow⟩ := lowestVacant_spec hv
        refine hrest p (fun q => ⟨fun hq => ?_, ?_⟩) h
        · rcases hq with hq | ⟨-, hq, hqlow⟩
          · exact absurd hq (ne_slotByte q)
          · exact Option.some.inj ((lowestVacant_eq hq hqlow).symm.trans hv)
        · rintro rfl
          exact .inr ⟨rfl, hp, hlow⟩
  · have hchosen : ∀ q, s.chosen (slotByte p) q ↔ q = p :=
      fun q => ⟨fun hq => hq.elim (fun e => (slotByte_inj e).symm) fun e => absurd e.1.symm (ne_slotByte p),
        fun e => .inl (e ▸ rfl)⟩
    rcases h with ⟨hno, rfl⟩ | ⟨hfree, ⟨hno, -⟩ | ⟨-, h⟩⟩
    · obtain ⟨r, hr⟩ : ∃ r, s.points[p] = some r :=
        Option.ne_none_iff_exists'.mp fun hp => hno fun q e => slotByte_inj e ▸ hp
      rw [chosenSlot_taken hr]
      exact ⟨.slotTaken, rfl, rfl⟩
    · exact absurd (fun e => absurd e.symm (ne_slotByte p)) hno
    · rw [chosenSlot_named (hfree p rfl)]
      exact hrest p hchosen h

/-! ### DEFINE_POINT -/

theorem definePoint_bytes (source slot : Byte) (f : PointFields) (s : State) :
    definePoint source (slot :: f.bytes) s = defineFields source slot f s := by
  simp only [definePoint, pointFieldsOf_bytes]

/-- The channels `left` after a point has taken up the channel that it is bound to, if any, with the level of its alarm state
pending (R147). -/
def State.channelsTaken (s : State) (left : Vector DriveChannel 8) (b : Option ChannelId) (p : Slot) (a : Alarm) :
    Vector DriveChannel 8 :=
  match b with
  | some c => left.set c { s.channels[c] with
      binding := some p, pendingDuty := some (levelFor a s.channels[c].levels) }
  | none => left

/-- A channel in OWN mode that a point takes up, on a part `u` that holds it as `s` does (R147). -/
theorem bindChannel_own {s u : State} {b : Option ChannelId} (ho : s.ownMode b)
    (hu : ∀ c ∈ b, u.channels[c] = s.channels[c]) (p : Slot) (a : Alarm) :
    u.bindChannel b p a = { u with channels := s.channelsTaken u.channels b p a } := by
  cases b with
  | none => rfl
  | some c =>
    simp only [State.bindChannel, DriveChannel.takenUp, State.channelsTaken, hu c rfl]
    rw [request_own (by exact ho c rfl)]
    rfl

/-- A channel that passes the drive binding test lets it hand on (R7). -/
theorem bindingTest_passes {s : State} {b : Option ChannelId} {owner : Byte} {p : Slot}
    (h : ∀ c ∈ b, s.channels[c].owner = owner ∧ s.channels[c].mode = .own ∧
      (s.channels[c].binding = none ∨ s.channels[c].binding = some p)) (rest : Answer) :
    bindingTest s b owner p rest = rest := by
  cases b with
  | none => rfl
  | some c =>
    obtain ⟨howner, hmode, hbinding⟩ := h c rfl
    have hfree : (s.channels[c].binding == none || s.channels[c].binding == some p) = true := by simpa using hbinding
    simp only [bindingTest, howner, hmode, hfree, beq_self_eq_true, require_true]

/-- The changes of DEFINE_POINT as one update of the part (R9). -/
theorem fillSlot_eq {s : State} {p : Slot} {r : PointRecord} {x : RefRecord} (hx : s.refs[r.reference] = some x)
    (ho : s.ownMode r.binding) : s.fillSlot p r = { s with
      points := s.points.set p (some r)
      tagMap := s.tagMap.set p (some r.tag)
      refs := s.refs.set r.reference (some { x with users := x.users + 1 })
      channels := s.channelsTaken s.channels r.binding p .unknown } := by
  unfold State.fillSlot
  rw [gainUser_some (x := x) (by exact hx), bindChannel_own (s := s) ho (by intros; rfl)]
  rfl

/-- The fields of a record in range pass the range check (R8). -/
theorem fieldsInRange_fields {d : PointRecord} (h : d.fieldsInRange) (hb : d.bandFits) (present : Nat → Bool) :
    fieldsInRange present d.fields = true := by
  obtain ⟨htag, hint, hs2, hs15, hl1, hl15⟩ := h
  obtain ⟨hlow, hhyst⟩ := hb
  have hhigh := d.bandHigh.isLt
  have hinput : (sensorByte d.input).toNat ≤ 15 := by rw [sensorByte_toNat]; omega
  have hnotify : (flagByte d.notify).toNat ≤ 1 := by cases d.notify <;> decide
  exact (fieldsInRange_iff present d.fields).mpr ⟨fun _ => htag, fun _ => hinput, fun _ => hint, fun _ => ⟨hs2, hs15⟩,
    fun _ => ⟨hl1, hl15⟩, fun _ => by show d.hysteresis.toNat ≤ 32767; omega, fun _ => hnotify⟩

/-- The record that DEFINE_POINT fills in from the fields of a record (R9). -/
theorem definedRecord_fields (d : PointRecord) (source : Byte) :
    definedRecord d.fields source = { d with
      state := .dormant, owner := source, lastValue := none, quality := .none, alarm := .unknown, faults := 0,
      resultTime := none, deadline := none, offer := none, locate := none } := by
  simp [definedRecord, PointRecord.fields]

/-- The slot that a completed DEFINE_POINT names, or takes for 255, is the slot that the executor chooses (R10). -/
theorem chosenSlot_eq {s : State} {slot : Byte} {p : Slot} (hp : s.points[p] = none)
    (h : slot = slotByte p ∨ (slot = 255 ∧ ∀ q : Slot, q < p → s.points[q] ≠ none)) (rest : Slot → Answer) :
    chosenSlot slot s rest = rest p := by
  rcases h with rfl | ⟨rfl, hlow⟩
  · exact chosenSlot_named hp rest
  · exact chosenSlot_lowest (lowestVacant_eq hp hlow) rest

/-- DEFINE_POINT with every check passed (R8). -/
theorem defineFields_ok {s : State} {source slot : Byte} {p : Slot} {d : PointRecord} {x : RefRecord}
    (hv : s.points[p] = none) (hslot : slot = slotByte p ∨ (slot = 255 ∧ ∀ q : Slot, q < p → s.points[q] ≠ none))
    (hx : s.refs[d.reference] = some x) (hf : d.fieldsInRange) (hb : d.bandFits) (ht : ∀ q : Slot, s.tagMap[q] ≠ some d.tag)
    (hs : x.owner = source ∨ x.isOpen = true ∨ source = 15)
    (hc : ∀ c ∈ d.binding, s.channels[c].owner = source ∧ s.channels[c].mode = .own ∧
      (s.channels[c].binding = none ∨ s.channels[c].binding = some p)) :
    defineFields source slot d.fields s = .ok (s.fillSlot p (definedRecord d.fields source)) [slotByte p] := by
  have hnames : ((decide (slot.toNat < 48) || slot == 255) && refCoded d.fields.reference && bindingCoded d.fields.binding) =
      true := by
    have hin : slot.toNat < 48 ∨ slot = 255 := hslot.imp (fun e => by rw [e, slotByte_toNat]; exact p.isLt) (·.1)
    simpa [PointRecord.fields] using hin
  have href : s.refs[refOf d.fields.reference] = some x := by simpa [PointRecord.fields] using hx
  have hband : bandConstraints d.fields.bandLow d.fields.bandHigh d.fields.hysteresis = true := (bandConstraints_iff d).mpr hb
  have htag : (s.slotOfTag d.fields.tag).isNone = true := (slotOfTag_isNone s d.tag).mpr ht
  have hbind : bindingOf d.fields.binding = d.binding := bindingOf_bindingByte d.binding
  unfold defineFields
  rw [hnames, require_true, chosenSlot_eq hv hslot, href]
  simp only [fieldsInRange_fields hf hb, hband, htag, (sharedWith_iff x source).mpr hs, require_true, hbind,
    bindingTest_passes hc]

/-- Two checks in a row with one refusal code are one check. -/
theorem firstFailing_and {p q : Prop} {k code : Byte} {checks : List (Prop × Byte)}
    (h : firstFailing ((p, k) :: (q, k) :: checks) code) : firstFailing ((p ∧ q, k) :: checks) code := by
  rcases h with ⟨hp, rfl⟩ | ⟨hp, ⟨hq, rfl⟩ | ⟨hq, h⟩⟩
  · exact .inl ⟨fun e => hp e.1, rfl⟩
  · exact .inl ⟨fun e => hq e.2, rfl⟩
  · exact .inr ⟨⟨hp, hq⟩, h⟩

/-- A reference byte within range names one reference. -/
theorem forall_named_ref {b : Byte} (h : b.toNat < 4) (Q : RefId → Prop) : (∀ k, b = refByte k → Q k) ↔ Q (refOf b) := by
  constructor
  · intro hk
    exact hk _ (refByte_refOf h).symm
  · rintro hq k rfl
    simpa using hq

/-- The checks of DEFINE_POINT refuse as their list says (R8). -/
theorem defineFields_refusedWith {s : State} {source slot code : Byte} {f : PointFields}
    (h : firstFailing (definePointChecks s source slot f) code) : (defineFields source slot f s).refusedWith code := by
  refine require_refusedWith (firstFailing_and h) ?_ rfl fun hnames h => ?_
  · simp [refCoded, bindingCoded_iff, and_assoc]
  · obtain ⟨hslot, href, hbind⟩ := hnames
    refine chosenSlot_refusedWith hslot h fun p hp h => ?_
    have hdef := forall_named_ref href (fun k => s.refs[k] ≠ none)
    have hshare := forall_named_ref href (fun k => ∀ x ∈ s.refs[k], x.owner = source ∨ x.isOpen = true ∨ source = 15)
    cases hx : s.refs[refOf f.reference] with
    | none =>
      rcases h with ⟨-, rfl⟩ | ⟨hno, -⟩
      · exact ⟨.notFound, rfl, rfl⟩
      · exact absurd hx (hdef.mp hno)
    | some x =>
      rcases h with ⟨hno, -⟩ | ⟨-, h⟩
      · exact absurd (hdef.mpr (by simp [hx])) hno
      · refine require_refusedWith h ?_ rfl fun _ h => require_refusedWith h ?_ rfl fun _ h =>
          require_refusedWith h (slotOfTag_isNone s f.tag) rfl fun _ h => require_refusedWith h ?_ rfl fun _ h =>
          bindingTest_refusedWith hbind hp h
        · simp [fieldsInRange_iff]
        · simp [bandConstraints]
        · rw [hshare, hx, sharedWith_iff]
          simp

/-- Settles O23: the checks passed one by one, and the list of checks followed to the first that fails. -/
theorem definePointFillsAVacantSlot : Obligations.DefinePointFillsAVacantSlot := by
  constructor
  · intro s kind source slot p d x h hv hslot hx hf hb ht hs hc
    have hown : s.ownMode d.binding := fun c hcb => (hc c hcb).2.1
    have hanswer := (definePoint_bytes source slot d.fields s).trans (defineFields_ok hv hslot hx hf hb ht hs hc)
    rw [definedRecord_fields, fillSlot_eq (x := x) (by exact hx) (by exact hown)] at hanswer
    exact completes_ok rfl h hanswer rfl
  · intro s kind source slot code f h hcode
    exact completes_refused rfl h (definePoint_bytes source slot f s ▸ defineFields_refusedWith hcode)

/-! ### AMEND_POINT -/

theorem amendPoint_bytes (source slot : Byte) (mask : Half) (f : PointFields) (s : State) :
    amendPoint source (slot :: (be16 mask ++ f.bytes)) s = amendFields source slot mask f s := by
  simp only [amendPoint, be16, List.cons_append, List.nil_append, pointFieldsOf_bytes, half_be16]

/-- What the payload of an amendment carries where it is present (R11, Table 10-6). -/
theorem amends_present {mask : Half} {f : PointFields} {r n : PointRecord} (h : amends mask f r n) :
    (mask.getLsbD 0 = true → f.tag = n.tag) ∧ (mask.getLsbD 1 = true → f.input = sensorByte n.input) ∧
    (mask.getLsbD 2 = true → f.reference = refByte n.reference) ∧ (mask.getLsbD 3 = true → f.interval = n.interval) ∧
    (mask.getLsbD 4 = true → f.staleFactor = n.staleFactor) ∧ (mask.getLsbD 5 = true → f.faultLimit = n.faultLimit) ∧
    (mask.getLsbD 8 = true → f.hysteresis = n.hysteresis) ∧ (mask.getLsbD 9 = true → f.notify = flagByte n.notify) ∧
    (mask.getLsbD 10 = true → f.binding = bindingByte n.binding) := by
  obtain ⟨-, -, -, -, -, -, -, -, -, -, htag, hinput, href, hint, hstale, hlimit, -, -, hhyst, hnotify, hbind⟩ := h
  exact ⟨fun b => by rwa [if_pos b] at htag, fun b => by rwa [if_pos b] at hinput, fun b => by rwa [if_pos b] at href,
    fun b => by rwa [if_pos b] at hint, fun b => by rwa [if_pos b] at hstale, fun b => by rwa [if_pos b] at hlimit,
    fun b => by rwa [if_pos b] at hhyst, fun b => by rwa [if_pos b] at hnotify, fun b => by rwa [if_pos b] at hbind⟩

/-- A field that the payload carries coded is the field that is read back from it (R11). -/
theorem amended_field {α β : Type} {present : Bool} {read : α → β} {write : β → α} (hread : ∀ v, read (write v) = v) {x : α}
    {n r : β} (h : if present = true then x = write n else n = r) : n = if present = true then read x else r := by
  split at h
  · next hb => rw [if_pos hb, h, hread]
  · next hb => rw [if_neg hb, h]

/-- The record that an amendment describes is the one that the executor writes (R11). -/
theorem amends_eq {mask : Half} {f : PointFields} {r n : PointRecord} (h : amends mask f r n) : amendedRecord mask f r = n := by
  obtain ⟨hstate, howner, hvalue, hquality, halarm, hfaults, htime, hdeadline, hoffer, hlocate, htag, hinput, href, hint,
    hstale, hlimit, hlow, hhigh, hhyst, hnotify, hbind⟩ := h
  cases n
  simp only [amendedRecord, PointRecord.mk.injEq]
  have plain {α : Type} (v : α) : id (id v) = v := rfl
  exact ⟨hstate.symm, howner.symm, (amended_field plain htag).symm, (amended_field sensorOf_sensorByte hinput).symm,
    (amended_field refOf_refByte href).symm, (amended_field plain hint).symm, (amended_field plain hstale).symm,
    (amended_field plain hlimit).symm, (amended_field plain hlow).symm, (amended_field plain hhigh).symm,
    (amended_field plain hhyst).symm, (amended_field flagOf_flagByte hnotify).symm,
    (amended_field bindingOf_bindingByte hbind).symm, hvalue.symm, hquality.symm, halarm.symm, hfaults.symm, htime.symm,
    hdeadline.symm, hoffer.symm, hlocate.symm⟩

/-! ### The changes of AMEND_POINT, one table at a time (R13 to R15) -/

theorem amend_tag (s : State) (p : Slot) (old new : Half) :
    (if new != old then s.setTag p (some new) else s) =
      { s with tagMap := if new = old then s.tagMap else s.tagMap.set p (some new) } := by
  by_cases h : new = old
  · simp [h]
  · simp [h, State.setTag]

theorem amend_notice (s : State) (p : Slot) (old new : Bool) :
    (if old && !new then s.leavePoint p else s) =
      { s with noticePoints := if old = true ∧ new = false then s.noticePoints.set p false else s.noticePoints } := by
  cases old <;> cases new <;> rfl

theorem amend_reference {s : State} {old new : RefId} {x y : RefRecord} (hx : s.refs[old] = some x)
    (hy : s.refs[new] = some y) :
    (if new != old then (s.loseUser old).gainUser new else s) = { s with
      refs := if new = old then s.refs else (s.refs.set old (some { x with users := x.users - 1 })).set new
        (some { y with users := y.users + 1 }) } := by
  by_cases h : new = old
  · simp [h]
  · have hy' : (s.refs.set old (some { x with users := x.users - 1 }))[new] = some y := by
      rw [getElem_setFin, if_neg h, hy]
    simp only [bne_iff_ne.mpr h, if_true, if_neg h]
    rw [loseUser_some hx, gainUser_some (x := y) (by exact hy')]

/-- A channel that a point does not leave stays as it is. -/
theorem channelsLeft_ne {s : State} {b : Option ChannelId} {c : ChannelId} (h : b ≠ some c) :
    (s.channelsLeft b)[c] = s.channels[c] := by
  cases b with
  | none => rfl
  | some d =>
    have hcd : c ≠ d := fun e => h (e ▸ rfl)
    simp only [State.channelsLeft]
    rw [getElem_setFin, if_neg hcd]

theorem amend_binding {s : State} {old new : Option ChannelId} (ho : s.ownMode old) (hn : new ≠ old → s.ownMode new)
    (p : Slot) (a : Alarm) :
    (if new != old then (s.unbindChannel old).bindChannel new p a else s) = { s with
      channels := if new = old then s.channels else s.channelsTaken (s.channelsLeft old) new p a } := by
  by_cases h : new = old
  · simp [h]
  · have hkeep : ∀ c ∈ new, (s.channelsLeft old)[c] = s.channels[c] :=
      fun c hc => channelsLeft_ne fun e => h (hc.trans e.symm)
    simp only [bne_iff_ne.mpr h, if_true, if_neg h]
    rw [unbindChannel_own ho, bindChannel_own (s := s) (hn h) (by exact hkeep)]

/-- The changes of AMEND_POINT as one update of the part (R13 to R15). -/
theorem amendSlot_eq {s : State} {p : Slot} {r n : PointRecord} {x y : RefRecord} (hx : s.refs[r.reference] = some x)
    (hy : s.refs[n.reference] = some y) (ho : s.ownMode r.binding) (hn : n.binding ≠ r.binding → s.ownMode n.binding) :
    s.amendSlot p r n = { s with
      points := s.points.set p (some n)
      tagMap := if n.tag = r.tag then s.tagMap else s.tagMap.set p (some n.tag)
      noticePoints := if r.notify = true ∧ n.notify = false then s.noticePoints.set p false else s.noticePoints
      refs :=
        if n.reference = r.reference then s.refs
        else (s.refs.set r.reference (some { x with users := x.users - 1 })).set n.reference
          (some { y with users := y.users + 1 })
      channels :=
        if n.binding = r.binding then s.channels
        else s.channelsTaken (s.channelsLeft r.binding) n.binding p r.alarm } := by
  unfold State.amendSlot
  dsimp only
  rw [amend_tag, amend_notice, amend_binding (by exact ho) (by exact hn), amend_reference (by exact hx) (by exact hy)]
  rfl

/-! ### The checks of AMEND_POINT (R12) -/

/-- The channel that the amended record is bound to is in OWN mode when it was not bound before. -/
theorem amended_ownMode {s : State} {p : Slot} {mask : Half} {f : PointFields} {r : PointRecord}
    (hc : mask.getLsbD 10 = true → ∀ c ∈ (amendedRecord mask f r).binding, s.channels[c].owner = r.owner ∧
      s.channels[c].mode = .own ∧ (s.channels[c].binding = none ∨ s.channels[c].binding = some p))
    (hne : (amendedRecord mask f r).binding ≠ r.binding) : s.ownMode (amendedRecord mask f r).binding := by
  have hbit : mask.getLsbD 10 = true := by
    by_contra hb
    exact hne (if_neg hb)
  intro c hcb
  obtain ⟨-, hmode, -⟩ := hc hbit c hcb
  exact hmode

theorem amendNames_iff (mask : Half) (f : PointFields) :
    ((!mask.getLsbD 2 || refCoded f.reference) && (!mask.getLsbD 10 || bindingCoded f.binding)) = true ↔
      namesInRange mask f := by
  simp only [Bool.and_eq_true, absent_or_iff, refCoded, decide_eq_true_eq, bindingCoded_iff, namesInRange]

theorem amendDefined_iff {s : State} {mask : Half} {f : PointFields} (h : namesInRange mask f) :
    (!mask.getLsbD 2 || (s.refs[refOf f.reference]).isSome) = true ↔ s.referenceDefined mask f := by
  obtain ⟨href, -⟩ := h
  rw [absent_or_iff, State.referenceDefined]
  refine forall_congr' fun b => ?_
  rw [forall_named_ref (href b) (fun k => s.refs[k] ≠ none), Option.isSome_iff_ne_none]

theorem amendStatic_iff (r : PointRecord) (mask : Half) :
    (!(r.state == .live && staticPresent mask)) = true ↔ (r.state = .live → mask.getLsbD 1 = false ∧
      mask.getLsbD 2 = false ∧ mask.getLsbD 3 = false ∧ mask.getLsbD 4 = false ∧ mask.getLsbD 5 = false) := by
  simp only [staticPresent, Bool.not_eq_true', Bool.and_eq_false_imp, beq_iff_eq, Bool.or_eq_false_iff, and_assoc]

theorem amendBand_iff (mask : Half) (f : PointFields) (r : PointRecord) :
    (mask == 0 || bandConstraints (amendedRecord mask f r).bandLow (amendedRecord mask f r).bandHigh
      (amendedRecord mask f r).hysteresis) = true ↔ (mask ≠ 0 → amendedBandFits mask f r) := by
  rw [Bool.or_eq_true, beq_iff_eq, bandConstraints_iff, or_iff_not_imp_left]
  rfl

theorem amendTag_iff (s : State) (p : Slot) (mask : Half) (t : Half) :
    (!(mask.getLsbD 0 && s.tagElsewhere t p)) = true ↔
      (mask.getLsbD 0 = true → ∀ q : Slot, q ≠ p → s.tagMap[q] ≠ some t) := by
  rw [Bool.not_eq_true', Bool.and_eq_false_imp, tagElsewhere_eq_false_iff]

theorem amendShared_iff {s : State} {mask : Half} {f : PointFields} (h : namesInRange mask f)
    (hdef : s.referenceDefined mask f) (owner : Byte) :
    (!mask.getLsbD 2 || (s.refs[refOf f.reference]).any (fun x => sharedWith x owner)) = true ↔
      (mask.getLsbD 2 = true → ∀ k : RefId, f.reference = refByte k → ∀ x ∈ s.refs[k],
        x.owner = owner ∨ x.isOpen = true ∨ owner = 15) := by
  obtain ⟨href, -⟩ := h
  rw [absent_or_iff]
  refine forall_congr' fun b => ?_
  rw [forall_named_ref (href b) (fun k => ∀ x ∈ s.refs[k], x.owner = owner ∨ x.isOpen = true ∨ owner = 15)]
  obtain ⟨x, hx⟩ := Option.ne_none_iff_exists'.mp
    ((forall_named_ref (href b) (fun k => s.refs[k] ≠ none)).mp (hdef b))
  simp only [hx, Option.any_some, sharedWith_iff, Option.mem_def, Option.some.injEq, forall_eq']

/-- The binding that the test of AMEND_POINT reads is the one that its byte carries, FFh when it is absent. -/
theorem amendBinding_eq (mask : Half) (b : Byte) :
    (if mask.getLsbD 10 = true then bindingOf b else none) = bindingOf (if mask.getLsbD 10 = true then b else 255) := by
  split <;> rfl

/-- An amendment that leads to a record within the ranges carries fields within them (R12 checks 2 and 6). -/
theorem amends_inRange {mask : Half} {f : PointFields} {r n : PointRecord} (ham : amends mask f r n) (hf : n.fieldsInRange)
    (hb : n.bandFits) : namesInRange mask f ∧ fieldsInRange mask.getLsbD f = true := by
  obtain ⟨htag, hinput, href, hint, hstale, hlimit, hhyst, hnotify, hbind⟩ := amends_present ham
  obtain ⟨rtag, rinput, rint, rstale, rlimit, rhyst, rnotify⟩ :=
    (fieldsInRange_iff (fun _ => true) n.fields).mp (fieldsInRange_fields hf hb _)
  refine ⟨(amendNames_iff mask f).mp ?_, (fieldsInRange_iff mask.getLsbD f).mpr ?_⟩
  · rw [Bool.and_eq_true, absent_or_iff, absent_or_iff]
    exact ⟨fun b => by rw [href b, refCoded_refByte], fun b => by rw [hbind b, bindingCoded_bindingByte]⟩
  · exact ⟨fun b => htag b ▸ rtag rfl, fun b => hinput b ▸ rinput rfl, fun b => hint b ▸ rint rfl,
      fun b => hstale b ▸ rstale rfl, fun b => hlimit b ▸ rlimit rfl, fun b => hhyst b ▸ rhyst rfl,
      fun b => hnotify b ▸ rnotify rfl⟩

/-- AMEND_POINT with every check passed (R12). -/
theorem amendFields_ok {s : State} {source : Byte} {p : Slot} {mask : Half} {f : PointFields} {r n : PointRecord}
    {y : RefRecord} (hr : s.points[p] = some r) (hmask : mask.toNat < 2048) (ham : amends mask f r n)
    (hy : s.refs[n.reference] = some y) (ha : admitted source r.owner)
    (hl : r.state = .live → mask.getLsbD 1 = false ∧ mask.getLsbD 2 = false ∧ mask.getLsbD 3 = false ∧
      mask.getLsbD 4 = false ∧ mask.getLsbD 5 = false)
    (hf : n.fieldsInRange) (hb : n.bandFits) (ht : mask.getLsbD 0 = true → ∀ q : Slot, q ≠ p → s.tagMap[q] ≠ some n.tag)
    (hs : mask.getLsbD 2 = true → y.owner = r.owner ∨ y.isOpen = true ∨ r.owner = 15)
    (hc : mask.getLsbD 10 = true → ∀ c ∈ n.binding, s.channels[c].owner = r.owner ∧ s.channels[c].mode = .own ∧
      (s.channels[c].binding = none ∨ s.channels[c].binding = some p)) :
    amendFields source (slotByte p) mask f s = .ok (s.amendSlot p r n) [] := by
  obtain ⟨htag, -, href, -, -, -, -, -, hbind⟩ := amends_present ham
  obtain ⟨hnames, hrange⟩ := amends_inRange ham hf hb
  have hnamed : mask.getLsbD 2 = true → s.refs[refOf f.reference] = some y := fun b => by
    simpa only [href b, refOf_refByte] using hy
  have hdefined : (!mask.getLsbD 2 || (s.refs[refOf f.reference]).isSome) = true :=
    (absent_or_iff _ _).mpr fun b => by rw [hnamed b]; rfl
  have hshared : (!mask.getLsbD 2 || (s.refs[refOf f.reference]).any (fun x => sharedWith x r.owner)) = true :=
    (absent_or_iff _ _).mpr fun b => by rw [hnamed b]; exact (sharedWith_iff y r.owner).mpr (hs b)
  have hcoded : (pointMaskCoded mask && fieldsInRange mask.getLsbD f) = true :=
    (Bool.and_eq_true _ _).mpr ⟨decide_eq_true hmask, hrange⟩
  have hband : (mask == 0 || bandConstraints n.bandLow n.bandHigh n.hysteresis) = true := by
    rw [(bandConstraints_iff n).mpr hb, Bool.or_true]
  have hfree : (!(mask.getLsbD 0 && s.tagElsewhere f.tag p)) = true :=
    (amendTag_iff s p mask f.tag).mpr fun b => htag b ▸ ht b
  have htest : ∀ c ∈ (if mask.getLsbD 10 = true then bindingOf f.binding else none), s.channels[c].owner = r.owner ∧
      s.channels[c].mode = .own ∧ (s.channels[c].binding = none ∨ s.channels[c].binding = some p) := by
    split
    · next b => rw [hbind b, bindingOf_bindingByte]; exact hc b
    · simp
  unfold amendFields
  rw [(amendNames_iff mask f).mpr hnames, require_true, onPoint_some hr, amends_eq ham, hdefined, mayChange_of_admitted ha,
    (amendStatic_iff r mask).mpr hl, hcoded, hband, hfree, hshared, bindingTest_passes htest]
  rfl

/-- The checks of AMEND_POINT refuse as their list says (R12). -/
theorem amendFields_refusedWith {s : State} {source code : Byte} {p : Slot} {mask : Half} {f : PointFields} {r : PointRecord}
    (hr : s.points[p] = some r) (h : firstFailing (amendPointChecks s source p r mask f) code) :
    (amendFields source (slotByte p) mask f s).refusedWith code := by
  refine require_refusedWith h (amendNames_iff mask f) rfl fun hnames h => ?_
  have hbinding : bindingInRange (if mask.getLsbD 10 = true then f.binding else 255) := by
    split
    · next b => exact hnames.2 b
    · exact .inr rfl
  rw [onPoint_some hr, amendBinding_eq]
  refine require_refusedWith h (amendDefined_iff hnames) rfl fun hdef h =>
    require_refusedWith h (mayChange_iff ..) rfl fun _ h => require_refusedWith h (amendStatic_iff r mask) rfl fun _ h =>
    require_refusedWith h ?_ rfl fun _ h => require_refusedWith h (amendBand_iff mask f r) rfl fun _ h =>
    require_refusedWith h (amendTag_iff s p mask f.tag) rfl fun _ h =>
    require_refusedWith h (amendShared_iff hnames hdef r.owner) rfl fun _ h =>
    bindingTest_refusedWith hbinding (fun _ => Iff.rfl) h
  rw [Bool.and_eq_true, fieldsInRange_iff, pointMaskCoded, decide_eq_true_iff]

/-- Settles O24: the checks passed one by one, and the list of checks followed to the first that fails. -/
theorem amendPointWritesThePresentFields : Obligations.AmendPointWritesThePresentFields := by
  constructor
  · intro s kind source p mask f r n x y h hr hmask ham hx hy ha hl hf hb ht hs hc ho
    have hanswer := (amendPoint_bytes source (slotByte p) mask f s).trans
      (amendFields_ok hr hmask ham hy ha hl hf hb ht hs hc)
    have hn : n.binding ≠ r.binding → s.ownMode n.binding := amends_eq ham ▸ amended_ownMode (amends_eq ham ▸ hc)
    rw [amendSlot_eq hx hy ho hn] at hanswer
    exact completes_ok rfl h hanswer rfl
  · intro s kind source code p mask f r h hr hcode
    exact completes_refused rfl h (amendPoint_bytes source (slotByte p) mask f s ▸ amendFields_refusedWith hr hcode)

end Sys2Proof.Machine

/-! SUPPORT. What each command leaves: the checks that it has passed and the operation that it then applies, for any property of
the part. -/

namespace Sys2Proof.Machine

section
variable {P : State → Prop} {s : State} {source : Byte} {payload : List Byte}

/-! ### The commands that change no record -/

theorem readPoint_leaves (h : P s) : (readPoint source payload s).Leaves P := by
  unfold readPoint
  split
  · exact leaves_onPoint fun _ _ _ => h
  · trivial

theorem findTag_leaves (h : P s) : (findTag source payload s).Leaves P := by
  unfold findTag
  split
  · split
    · exact h
    · trivial
  · trivial

theorem listPoints_leaves (h : P s) : (listPoints source payload s).Leaves P := by
  unfold listPoints
  split
  · exact leaves_require fun _ => h
  · trivial

theorem readRef_leaves (h : P s) : (readRef source payload s).Leaves P := by
  unfold readRef
  split
  · exact leaves_onRef fun _ _ _ => h
  · trivial

theorem readDrive_leaves (h : P s) : (readDrive source payload s).Leaves P := by
  unfold readDrive
  split
  · exact leaves_onChannel fun _ => h
  · trivial

theorem readStatus_leaves (h : P s) : (readStatus source payload s).Leaves P := by
  unfold readStatus
  split
  · exact h
  · trivial

/-! ### The point commands (chapter 1, R158) -/

/-- DEFINE_POINT fills a vacant slot under every check of R8. -/
theorem definePoint_leaves
    (h : ∀ (p : Slot) (f : PointFields) (x : RefRecord), s.points[p] = none → s.refs[refOf f.reference] = some x →
      fieldsInRange (fun _ => true) f = true → bandConstraints f.bandLow f.bandHigh f.hysteresis = true →
      (s.slotOfTag f.tag).isNone = true → sharedWith x source = true →
      (bindingTest s (bindingOf f.binding) source p (.ok (s.fillSlot p (definedRecord f source)) [slotByte p])).Leaves P) :
    (definePoint source payload s).Leaves P := by
  unfold definePoint
  split
  · split
    · next f _ =>
      refine leaves_require fun _ => leaves_chosenSlot fun p hv => ?_
      split
      · trivial
      · next x hx =>
        exact leaves_require fun hf => leaves_require fun hb => leaves_require fun ht => leaves_require fun hs =>
          h p f x hv hx hf hb ht hs
    · trivial
  · trivial

/-- AMEND_POINT amends a record under every check of R12. -/
theorem amendPoint_leaves
    (h : ∀ (p : Slot) (r : PointRecord) (mask : Half) (f : PointFields), s.points[p] = some r →
      (!(r.state == .live && staticPresent mask)) = true → (pointMaskCoded mask && fieldsInRange mask.getLsbD f) = true →
      (mask == 0 || bandConstraints (amendedRecord mask f r).bandLow (amendedRecord mask f r).bandHigh
        (amendedRecord mask f r).hysteresis) = true →
      (!(mask.getLsbD 0 && s.tagElsewhere f.tag p)) = true →
      (!mask.getLsbD 2 || (s.refs[refOf f.reference]).any (fun x => sharedWith x r.owner)) = true →
      (bindingTest s (if mask.getLsbD 10 then bindingOf f.binding else none) r.owner p
        (.ok (s.amendSlot p r (amendedRecord mask f r)) [])).Leaves P) :
    (amendPoint source payload s).Leaves P := by
  unfold amendPoint
  split
  · split
    · next f _ =>
      exact leaves_require fun _ => leaves_onPoint fun p r hr => leaves_require fun _ => leaves_require fun _ =>
        leaves_require fun hl => leaves_require fun hf => leaves_require fun hb => leaves_require fun ht =>
        leaves_require fun hs => h p r _ f hr hl hf hb ht hs
    · trivial
  · trivial

theorem startPoint_leaves (h : ∀ p r, s.points[p] = some r → (r.state != .live) = true → P (s.start p r)) :
    (startPoint source payload s).Leaves P := by
  unfold startPoint
  split
  · exact leaves_onPoint fun p r hr => leaves_require fun _ => leaves_require fun hl => h p r hr hl
  · trivial

/-- STOP_POINT has one meaning for a LIVE and one for a HELD point (R18, R19). -/
theorem stopPoint_leaves (hlive : ∀ p r, s.points[p] = some r → r.state = .live → P (s.stopLive p r))
    (hheld : ∀ p r, s.points[p] = some r → r.state = .held →
      P (s.setPoint p (some { r with state := .dormant, alarm := .unknown }))) :
    (stopPoint source payload s).Leaves P := by
  unfold stopPoint
  split
  · refine leaves_onPoint fun p r hr => leaves_require fun _ => ?_
    split
    · trivial
    · next hl => exact hlive p r hr hl
    · next hh => exact hheld p r hr hh
  · trivial

theorem retirePoint_leaves (h : ∀ p r, s.points[p] = some r → P (s.retire p r)) :
    (retirePoint source payload s).Leaves P := by
  unfold retirePoint
  split
  · exact leaves_onPoint fun p r hr => leaves_require fun _ => h p r hr
  · trivial

theorem locatePoint_leaves
    (h : ∀ p r locate, s.points[p] = some r → P (s.setPoint p (some { r with locate := locate }))) :
    (locatePoint source payload s).Leaves P := by
  unfold locatePoint
  split
  · refine leaves_onPoint fun p r hr => leaves_require fun _ => ?_
    split
    · exact h p r none hr
    · exact h p r _ hr
  · trivial

/-! ### The handover commands (chapter 2) -/

theorem offerPoint_leaves
    (h : ∀ p r o, s.points[p] = some r → 1 ≤ o.recipient.toNat → o.recipient.toNat ≤ 15 → o.recipient ≠ r.owner →
      P (s.setPoint p (some { r with offer := some o }))) :
    (offerPoint source payload s).Leaves P := by
  unfold offerPoint
  split
  · refine leaves_onPoint fun p r hr => leaves_require fun _ => leaves_require fun hv => ?_
    simp only [Bool.and_eq_true, decide_eq_true_eq, bne_iff_ne] at hv
    obtain ⟨⟨⟨h1, h15⟩, hne⟩, -⟩ := hv
    exact h p r _ hr h1 h15 hne
  · trivial

theorem withdrawOffer_leaves (h : ∀ p r, s.points[p] = some r → P (s.setPoint p (some { r with offer := none }))) :
    (withdrawOffer source payload s).Leaves P := by
  unfold withdrawOffer
  split
  · exact leaves_onPoint fun p r hr => leaves_require fun _ => leaves_require fun _ => h p r hr
  · trivial

/-- TAKE_POINT moves a point to its source, which the offer names and the open-reference test admits (R38). -/
theorem takePoint_leaves
    (h : ∀ p r, s.points[p] = some r → r.offer.any (fun o => o.recipient == source) = true → s.admits r source = true →
      P (s.moveOwner p r source)) :
    (takePoint source payload s).Leaves P := by
  unfold takePoint
  split
  · exact leaves_onPoint fun p r hr => leaves_require fun ho => leaves_require fun ha => h p r hr ho ha
  · trivial

/-- ASSIGN_OWNER moves a point to a controller of 1-15 that the open-reference test admits (R43). -/
theorem assignOwner_leaves
    (h : ∀ p r owner, s.points[p] = some r → 1 ≤ owner.toNat → owner.toNat ≤ 15 → s.admits r owner = true →
      P (s.moveOwner p r owner)) :
    (assignOwner source payload s).Leaves P := by
  unfold assignOwner
  split
  · refine leaves_onPoint fun p r hr => leaves_require fun _ => leaves_require fun hv => leaves_require fun ha => ?_
    simp only [Bool.and_eq_true, decide_eq_true_eq] at hv
    obtain ⟨h1, h15⟩ := hv
    exact h p r _ hr h1 h15 ha
  · trivial

/-! ### The reference commands (chapter 3) -/

theorem defineRef_leaves
    (h : ∀ r isOpen excitation span recal, s.refs[r] = none →
      refFieldsInRange (fun _ => true) isOpen excitation span recal = true →
      P (s.setRef r (some (definedRef source isOpen excitation span recal)))) :
    (defineRef source payload s).Leaves P := by
  unfold defineRef
  split
  · exact leaves_require fun _ => leaves_require fun hv => leaves_require fun hf =>
      h _ _ _ _ _ (Option.isNone_iff_eq_none.mp hv) hf
  · trivial

/-- AMEND_REF amends a record under the checks of R54, with the closing test where it closes an open reference. -/
theorem amendRef_leaves
    (h : ∀ r x mask isOpen excitation span recal, s.refs[r] = some x →
      (!(x.state == .calibrating && timingPresent mask)) = true →
      refFieldsInRange mask.getLsbD isOpen excitation span recal = true →
      (!(timingPresent mask && decide (0 < x.liveUsers))) = true →
      (!(mask.getLsbD 0 && !flagOf isOpen && x.isOpen) || s.closingTest r x) = true →
      P (s.setRef r (some (amendedRef mask isOpen excitation span recal x)))) :
    (amendRef source payload s).Leaves P := by
  unfold amendRef
  split
  · refine leaves_onRef fun r x hx => leaves_require fun _ => leaves_require fun hc => leaves_require fun hf =>
      leaves_require fun hl => leaves_require fun ht => ?_
    obtain ⟨-, hrange⟩ := (Bool.and_eq_true _ _).mp hf
    exact h r x _ _ _ _ _ hx hc hrange hl ht
  · trivial

theorem calibrateRef_leaves
    (h : ∀ r x, s.refs[r] = some x → (x.state != .calibrating) = true →
      P ((s.setRef r (some { x with request := true })).callCalibration r)) :
    (calibrateRef source payload s).Leaves P := by
  unfold calibrateRef
  split
  · exact leaves_onRef fun r x hx => leaves_require fun _ => leaves_require fun hc => h r x hx hc
  · trivial

theorem retireRef_leaves (h : ∀ r x, s.refs[r] = some x → (x.users == 0) = true → P (s.emptyRef r)) :
    (retireRef source payload s).Leaves P := by
  unfold retireRef
  split
  · exact leaves_onRef fun r x hx => leaves_require fun _ => leaves_require fun hu => h r x hx hu
  · trivial

/-! ### The commands of the due queue (chapter 5) -/

theorem measureNow_leaves (h : ∀ p, P (s.setQueue (bringForward s.clock s.queue p))) :
    (measureNow source payload s).Leaves P := by
  unfold measureNow
  split
  · exact leaves_onPoint fun p _ _ => leaves_require fun _ => leaves_require fun _ => leaves_require fun _ => h p
  · trivial

theorem measureOwned_leaves (h : ∀ slots : List Slot, P (s.setQueue (slots.foldl (bringForward s.clock) s.queue))) :
    (measureOwned source payload s).Leaves P := by
  unfold measureOwned
  split
  · exact h _
  · trivial

/-! ### The drive commands (chapter 7) -/

theorem configureDrive_leaves
    (h : ∀ (c : ChannelId) (f : DriveFields), (s.channels[c].owner == 0 || mayChange source s.channels[c].owner) = true →
      (!s.channels[c].enabled) = true → (flagCoded f.polarity && flagCoded f.mode && decide (2 ≤ f.period.toNat)) = true →
      (!(modeOf f.mode == .follow && (c == 0 || s.channels[c].binding.isSome))) = true →
      P (s.setChannel c (configuredChannel f source s.channels[c]))) :
    (configureDrive source payload s).Leaves P := by
  unfold configureDrive
  split
  · split
    · exact leaves_onChannel fun c => leaves_require fun ho => leaves_require fun he => leaves_require fun hf =>
        leaves_require fun hm => h c _ ho he hf hm
    · trivial
  · trivial

theorem setDriveLevels_leaves (h : ∀ c l, P (s.setLevels c l)) : (setDriveLevels source payload s).Leaves P := by
  unfold setDriveLevels
  split
  · split
    · exact leaves_onOwnedChannel fun c => h c _
    · trivial
  · trivial

theorem setManualDuty_leaves (h : ∀ c duty, P (s.setChannel c (manualChannel duty s.channels[c]))) :
    (setManualDuty source payload s).Leaves P := by
  unfold setManualDuty
  split
  · exact leaves_onOwnedChannel fun c => h c _
  · trivial

theorem setDrivePeriod_leaves
    (h : ∀ (c : ChannelId) (period : Half), 2 ≤ period.toNat → P (s.setChannel c (periodChannel period s.channels[c]))) :
    (setDrivePeriod source payload s).Leaves P := by
  unfold setDrivePeriod
  split
  · exact leaves_onOwnedChannel fun c => leaves_require fun hv => h c _ (of_decide_eq_true hv)
  · trivial

theorem enableDrive_leaves
    (h : ∀ c : ChannelId, (!s.channels[c].enabled) = true →
      P (s.setChannel c (enabledChannel (s.calledFor c) s.channels[c]))) :
    (enableDrive source payload s).Leaves P := by
  unfold enableDrive
  split
  · exact leaves_onOwnedChannel fun c => leaves_require fun he => h c he
  · trivial

theorem disableDrive_leaves (h : ∀ c, P (s.setChannel c (disabledChannel s.channels[c]))) :
    (disableDrive source payload s).Leaves P := by
  unfold disableDrive
  split
  · exact leaves_onOwnedChannel fun c => h c
  · trivial

theorem releaseDrive_leaves
    (h : ∀ c : ChannelId, (!s.channels[c].enabled) = true → (s.channels[c].binding == none) = true →
      P (s.setChannel c { s.channels[c] with owner := 0 })) :
    (releaseDrive source payload s).Leaves P := by
  unfold releaseDrive
  split
  · exact leaves_onOwnedChannel fun c => leaves_require fun he => leaves_require fun hb => h c he hb
  · trivial

/-! ### The device commands (chapter 9) -/

theorem readNotices_leaves (h : P (s.noticesRead source)) : (readNotices source payload s).Leaves P := by
  unfold readNotices
  split
  · exact h
  · trivial

theorem clearCauses_leaves
    (h : P ((s.setCauses ⟨false, false, false⟩).setPort { s.port with discardCount := 0, lastDiscard := none })) :
    (clearCauses source payload s).Leaves P := by
  unfold clearCauses
  split
  · exact leaves_require fun _ => h
  · trivial

theorem setDevice_leaves (h : ∀ c, P (s.setSettings c)) : (setDevice source payload s).Leaves P := by
  unfold setDevice
  split
  · exact leaves_require fun _ => leaves_require fun _ => h _
  · trivial

theorem clearTables_leaves (h : P s.cleared) : (clearTables source payload s).Leaves P := by
  unfold clearTables
  split
  · exact leaves_require fun _ => h
  · trivial

end

end Sys2Proof.Machine

/-! SUPPORT. OFFER_POINT, WITHDRAW_OFFER, offer expiry, TAKE_POINT and ASSIGN_OWNER: what each completes to. -/

namespace Sys2Proof.Machine

/-! ### The offer (R36, R37, R41) -/

/-- The value check of OFFER_POINT (R36). -/
theorem offerInRange_iff (recipient owner hold : Byte) :
    (decide (1 ≤ recipient.toNat) && decide (recipient.toNat ≤ 15) && recipient != owner && hold != 0) = true ↔
      1 ≤ recipient.toNat ∧ recipient.toNat ≤ 15 ∧ recipient ≠ owner ∧ hold ≠ 0 := by
  simp only [Bool.and_eq_true, decide_eq_true_eq, bne_iff_ne, and_assoc]

/-- OFFER_POINT by the owner or the service controller: what is left is the value check (R36). -/
theorem offerPoint_admitted {s : State} {source : Byte} {p : Slot} {r : PointRecord} (hr : s.points[p] = some r)
    (ha : admitted source r.owner) (recipient hold : Byte) :
    offerPoint source [slotByte p, recipient, hold] s =
      require (decide (1 ≤ recipient.toNat) && decide (recipient.toNat ≤ 15) && recipient != r.owner && hold != 0) .badValue
        (.ok (s.setPoint p (some { r with offer := some ⟨recipient, s.clock + secondsMs (hold.setWidth 32)⟩ }))
          (be32 (s.clock + secondsMs (hold.setWidth 32)))) := by
  simp only [offerPoint, onPoint_some hr, mayChange_of_admitted ha, require_true]

/-- WITHDRAW_OFFER by the owner or the service controller: what is left is whether there is an offer (R37). -/
theorem withdrawOffer_admitted {s : State} {source : Byte} {p : Slot} {r : PointRecord} (hr : s.points[p] = some r)
    (ha : admitted source r.owner) :
    withdrawOffer source [slotByte p] s =
      require r.offer.isSome .noOffer (.ok (s.setPoint p (some { r with offer := none })) []) := by
  simp only [withdrawOffer, onPoint_some hr, mayChange_of_admitted ha, require_true]

/-- An offer whose time has come is dropped, with a notice if notify is on (R41). -/
theorem expireOffer_due {s : State} {p : Slot} {r : PointRecord} {o : Offer} (hr : s.points[p] = some r)
    (ho : r.offer = some o) (hdue : atOrBefore o.expiry s.clock = true) :
    s.expireOffer p = { s with
      points := s.points.set p (some { r with offer := none })
      noticePoints := if r.notify = true then s.noticePoints.set p true else s.noticePoints } := by
  simp only [State.expireOffer, hr, ho, Option.map_some, hasCome, hdue, if_true]
  split <;> rfl

/-- An offer whose time has not come stays. -/
theorem expireOffer_early {s : State} {p : Slot} {r : PointRecord} {o : Offer} (hr : s.points[p] = some r)
    (ho : r.offer = some o) (hearly : atOrBefore o.expiry s.clock = false) : s.expireOffer p = s := by
  simp [State.expireOffer, hr, ho, hasCome, hearly]

theorem expireOffer_none {s : State} {p : Slot} {r : PointRecord} (hr : s.points[p] = some r) (ho : r.offer = none) :
    s.expireOffer p = s := by
  simp [State.expireOffer, hr, ho, hasCome]

theorem exec_offerExpiry {s : State} (h : s.inReset = false) (p : Slot) :
    exec (.offerExpiry p) s = .next (s.expireOffer p) :=
  running_free h (s.expireOffer p)

/-- Settles O32: each command is down to its last check, and the expiry to the offer and its time. -/
theorem offersAreMadeWithdrawnAndExpire : Obligations.OffersAreMadeWithdrawnAndExpire := by
  refine ⟨?_, ?_, ?_⟩
  · intro s kind source recipient hold p r h hr ha
    have hanswer := offerPoint_admitted hr ha recipient hold
    have hcheck := offerInRange_iff recipient r.owner hold
    constructor
    · intro h1 h15 hne hhold
      rw [hcheck.mpr ⟨h1, h15, hne, hhold⟩, require_true] at hanswer
      exact completes_ok rfl h hanswer rfl
    · intro hbad
      refine completes_refused rfl h (hanswer ▸ refusedWith_require (Bool.eq_false_iff.mpr fun hc => ?_) .badValue _)
      obtain ⟨h1, h15, hne, hhold⟩ := hcheck.mp hc
      rcases hbad with rfl | hbig | he | he
      · simp at h1
      · omega
      · exact hne he
      · exact hhold he
  · intro s kind source p r h hr ha
    have hanswer := withdrawOffer_admitted hr ha
    constructor
    · intro ho
      rw [ho, require_true] at hanswer
      exact completes_ok rfl h hanswer rfl
    · intro ho
      exact completes_refused rfl h (hanswer ▸ refusedWith_require (by rw [ho]; rfl) .noOffer _)
  · intro s p r h hr
    rw [exec_offerExpiry h]
    exact ⟨fun o ho hdue => congrArg _ (expireOffer_due hr ho hdue),
      fun o ho hearly => congrArg _ (expireOffer_early hr ho hearly), fun ho => congrArg _ (expireOffer_none hr ho)⟩

/-! ### The move of a point (R38, R39, R43, R44) -/

/-- The channels after a point's bound channel, if it has one, has moved to an owner (R148). -/
def State.channelsMoved (s : State) (b : Option ChannelId) (owner : Byte) : Vector DriveChannel 8 :=
  match b with
  | some c => s.channels.set c { s.channels[c] with owner := owner }
  | none => s.channels

/-- An offer names a controller, as a test and as an equation. -/
theorem offerNames_iff (offer : Option Offer) (owner : Byte) :
    offer.any (fun o => o.recipient == owner) = true ↔ offer.map Offer.recipient = some owner := by
  cases offer <;> simp

/-- The move of a point as one update of the part (R39, R44). -/
theorem moveOwner_eq (s : State) (p : Slot) (r : PointRecord) (owner : Byte) : s.moveOwner p r owner = { s with
    points := s.points.set p (some { r with
      owner := owner
      offer := if r.offer.map Offer.recipient = some owner then none else r.offer })
    channels := s.channelsMoved r.binding owner } := by
  simp only [State.moveOwner, offerNames_iff]
  cases r.binding <;> rfl

/-- The open-reference test of a point reads the record of its reference (R33). -/
theorem admits_eq {s : State} {r : PointRecord} {x : RefRecord} (hx : s.refs[r.reference] = some x) (owner : Byte) :
    s.admits r owner = sharedWith x owner := by
  simp only [State.admits, hx, Option.any_some]

theorem admits_iff {s : State} {r : PointRecord} {x : RefRecord} (hx : s.refs[r.reference] = some x) (owner : Byte) :
    s.admits r owner = true ↔ x.owner = owner ∨ x.isOpen = true ∨ owner = 15 := by
  rw [admits_eq hx, sharedWith_iff]

theorem admits_eq_false {s : State} {r : PointRecord} {x : RefRecord} {owner : Byte} (hx : s.refs[r.reference] = some x)
    (howner : x.owner ≠ owner) (hclosed : x.isOpen = false) (hservice : owner ≠ 15) : s.admits r owner = false := by
  rw [Bool.eq_false_iff, Ne, admits_iff hx]
  rintro (h | h | h)
  · exact howner h
  · exact Bool.false_ne_true (hclosed.symm.trans h)
  · exact hservice h

/-- TAKE_POINT on a non-vacant slot: the offer test, then the open-reference test (R38). -/
theorem takePoint_some {s : State} {p : Slot} {r : PointRecord} (hr : s.points[p] = some r) (source : Byte) :
    takePoint source [slotByte p] s = require (r.offer.any (fun o => o.recipient == source)) .noOffer
      (require (s.admits r source) .notShared (.ok (s.moveOwner p r source) [])) := by
  simp only [takePoint, onPoint_some hr]

/-- ASSIGN_OWNER by the service controller on a non-vacant slot: the value check, then the open-reference test (R43). -/
theorem assignOwner_service {s : State} {p : Slot} {r : PointRecord} (hr : s.points[p] = some r) (owner : Byte) :
    assignOwner 15 [slotByte p, owner] s = require (decide (1 ≤ owner.toNat) && decide (owner.toNat ≤ 15)) .badValue
      (require (s.admits r owner) .notShared (.ok (s.moveOwner p r owner) [])) := by
  simp only [assignOwner, onPoint_some hr, Config.service, beq_self_eq_true, require_true]

/-- Settles O33: both commands are down to their last checks and the one update that they share. -/
theorem takeAndAssignMoveThePointWithItsChannel : Obligations.TakeAndAssignMoveThePointWithItsChannel := by
  constructor
  · intro s kind source p r x h hr hx
    have hanswer := takePoint_some hr source
    refine ⟨fun o ho hto => ?_, fun hno => ?_⟩
    · have hnamed : r.offer.map Offer.recipient = some source := by rw [ho, ← hto]; rfl
      rw [(offerNames_iff r.offer source).mpr hnamed, require_true] at hanswer
      constructor
      · intro hshared
        rw [(admits_iff hx source).mpr hshared, require_true, moveOwner_eq, if_pos hnamed] at hanswer
        exact completes_ok rfl h hanswer rfl
      · intro howner hclosed hservice
        exact completes_refused rfl h
          (hanswer ▸ refusedWith_require (admits_eq_false hx howner hclosed hservice) .notShared _)
    · refine completes_refused rfl h (hanswer ▸ refusedWith_require (Bool.eq_false_iff.mpr fun hc => ?_) .noOffer _)
      obtain ⟨o, ho, hto⟩ := Option.map_eq_some_iff.mp ((offerNames_iff r.offer source).mp hc)
      exact hno o ho hto
  · intro s kind owner p r x h hr hx
    have hanswer := assignOwner_service hr owner
    refine ⟨fun h1 h15 => ?_, fun hbad => ?_⟩
    · rw [decide_eq_true h1, decide_eq_true h15, Bool.and_self, require_true] at hanswer
      constructor
      · intro hshared
        rw [(admits_iff hx owner).mpr hshared, require_true, moveOwner_eq] at hanswer
        exact completes_ok rfl h hanswer rfl
      · intro howner hclosed hservice
        exact completes_refused rfl h
          (hanswer ▸ refusedWith_require (admits_eq_false hx howner hclosed hservice) .notShared _)
    · refine completes_refused rfl h (hanswer ▸ refusedWith_require ?_ .badValue _)
      rcases hbad with rfl | hbig
      · rfl
      · rw [decide_eq_false (by omega : ¬ owner.toNat ≤ 15), Bool.and_false]

end Sys2Proof.Machine

/-! SUPPORT. The open-reference condition (R31): what keeps it, and that every row does. -/

namespace Sys2Proof.Machine

/-! ### Operations that leave the reference table alone -/

@[simp] theorem requestLevel_refs (s : State) (b : Option ChannelId) (a : Alarm) : (s.requestLevel b a).refs = s.refs := by
  rw [requestLevel_frame]

@[simp] theorem bindChannel_refs (s : State) (b : Option ChannelId) (p : Slot) (a : Alarm) :
    (s.bindChannel b p a).refs = s.refs := by rw [bindChannel_frame]

@[simp] theorem unbindChannel_refs (s : State) (b : Option ChannelId) : (s.unbindChannel b).refs = s.refs := by
  rw [unbindChannel_frame]

@[simp] theorem moveChannelOwner_refs (s : State) (b : Option ChannelId) (owner : Byte) :
    (s.moveChannelOwner b owner).refs = s.refs := by rw [moveChannelOwner_frame]

@[simp] theorem announce_refs (s : State) (p : Slot) (r : PointRecord) (a : Alarm) : (s.announce p r a).refs = s.refs := by
  rw [announce_frame]

@[simp] theorem insertEntry_refs (s : State) (k : Record) (due : Clock) : (s.insertEntry k due).refs = s.refs := rfl

@[simp] theorem returnEntry_refs (s : State) (k : Record) (due : Clock) : (s.returnEntry k due).refs = s.refs := rfl

@[simp] theorem withdraw_refs (s : State) (p : Slot) : (s.withdraw p).refs = s.refs := by
  rw [withdraw_eq]

@[simp] theorem callCalibration_refs (s : State) (r : RefId) : (s.callCalibration r).refs = s.refs := by
  unfold State.callCalibration
  split
  · split <;> rfl
  · rfl

/-! ### What the open-reference test reads of a reference -/

/-- The owner and the open flag of each reference, which is all that the open-reference test reads of it (R31). -/
def sharingOf (refs : Vector (Option RefRecord) 4) (r : RefId) : Option (Byte × Bool) :=
  (refs[r]).map fun x => (x.owner, x.isOpen)

/-- A record that keeps its owner and its open flag is shared as before. -/
theorem sharingOf_set {refs : Vector (Option RefRecord) 4} {r : RefId} {x y : RefRecord} (hx : refs[r] = some x)
    (howner : y.owner = x.owner) (hopen : y.isOpen = x.isOpen) : sharingOf (refs.set r (some y)) = sharingOf refs := by
  funext k
  simp only [sharingOf, getElem_setFin]
  split
  · next e => simp [e, hx, howner, hopen]
  · rfl

@[simp] theorem gainUser_sharing (s : State) (r : RefId) : sharingOf (s.gainUser r).refs = sharingOf s.refs := by
  cases h : s.refs[r] with
  | none => simp only [State.gainUser, h]
  | some x => rw [gainUser_some h]; exact sharingOf_set h rfl rfl

@[simp] theorem loseUser_sharing (s : State) (r : RefId) : sharingOf (s.loseUser r).refs = sharingOf s.refs := by
  cases h : s.refs[r] with
  | none => simp only [State.loseUser, h]
  | some x => rw [loseUser_some h]; exact sharingOf_set h rfl rfl

@[simp] theorem gainLiveUser_sharing (s : State) (r : RefId) : sharingOf (s.gainLiveUser r).refs = sharingOf s.refs := by
  cases h : s.refs[r] with
  | none => simp only [State.gainLiveUser, h]
  | some x => rw [gainLiveUser_some h]; exact sharingOf_set h rfl rfl

@[simp] theorem loseLiveUser_sharing (s : State) (r : RefId) : sharingOf (s.loseLiveUser r).refs = sharingOf s.refs := by
  cases h : s.refs[r] with
  | none => simp only [State.loseLiveUser, h]
  | some x => rw [loseLiveUser_some h]; exact sharingOf_set h rfl rfl

/-- A reference that is shared as before stood in the table before, with the same owner and open flag. -/
theorem exists_of_sharingOf_eq {refs refs' : Vector (Option RefRecord) 4} (h : sharingOf refs' = sharingOf refs) {r : RefId}
    {x : RefRecord} (hx : refs'[r] = some x) : ∃ y, refs[r] = some y ∧ y.owner = x.owner ∧ y.isOpen = x.isOpen := by
  have hr := congrFun h r
  simp only [sharingOf, hx, Option.map_some] at hr
  obtain ⟨y, hy, he⟩ := Option.map_eq_some_iff.mp hr.symm
  exact ⟨y, hy, congrArg Prod.fst he, congrArg Prod.snd he⟩

/-- The closing test, point by point (R34). -/
theorem closingTest_iff (s : State) (r : RefId) (x : RefRecord) :
    s.closingTest r x = true ↔ ∀ p : Slot, ∀ q ∈ s.points[p], q.reference = r → x.owner = q.owner ∨ q.owner = 15 := by
  simp only [State.closingTest, List.all_eq_true, List.mem_finRange, true_implies]
  refine forall_congr' fun p => ?_
  cases s.points[p] with
  | none => simp
  | some q => simp [sharedWith_iff, or_iff_not_imp_left]

/-! ### What keeps the open-reference condition -/

namespace State.SharingSound

variable {s t : State} {p : Slot} {r : RefId}

/-- Points that stood before, on references that are shared as before. -/
theorem of_points (h : s.SharingSound) (hp : ∀ k : Slot, ∀ n ∈ t.points[k], ∃ q ∈ s.points[k],
    q.owner = n.owner ∧ q.reference = n.reference) (hr : sharingOf t.refs = sharingOf s.refs) : t.SharingSound := by
  intro p n hn x hx
  obtain ⟨q, hq, howner, href⟩ := hp p n hn
  obtain ⟨y, hy, hyowner, hyopen⟩ := exists_of_sharingOf_eq hr hx
  rw [← howner, ← hyowner, ← hyopen]
  exact h p q hq y (by simpa only [href, Option.mem_def] using hy)

theorem congr (h : s.SharingSound) (hp : t.points = s.points) (hr : sharingOf t.refs = sharingOf s.refs) :
    t.SharingSound :=
  of_points h (fun _ n hn => ⟨n, by rwa [← hp], rfl, rfl⟩) hr

/-- A record is written that keeps its owner and its reference. -/
theorem written {q n : PointRecord} (h : s.SharingSound) (hq : s.points[p] = some q)
    (hp : t.points = s.points.set p (some n)) (howner : n.owner = q.owner) (href : n.reference = q.reference)
    (hr : sharingOf t.refs = sharingOf s.refs) : t.SharingSound := by
  refine of_points h (fun k m hm => ?_) hr
  rw [hp, getElem_setFin] at hm
  split at hm
  · next e =>
    obtain rfl : n = m := Option.some.inj hm
    exact ⟨q, e ▸ hq, howner.symm, href.symm⟩
  · exact ⟨m, hm, rfl, rfl⟩

/-- A slot becomes vacant. -/
theorem retired (h : s.SharingSound) (hp : t.points = s.points.set p none) (hr : sharingOf t.refs = sharingOf s.refs) :
    t.SharingSound := by
  refine of_points h (fun k m hm => ?_) hr
  rw [hp, getElem_setFin] at hm
  split at hm
  · cases hm
  · exact ⟨m, hm, rfl, rfl⟩

/-- A point gains an owner or a reference, and passes the open-reference test (R32, R33). -/
theorem placed {n : PointRecord} (h : s.SharingSound)
    (htest : ∀ x ∈ s.refs[n.reference], sharedWith x n.owner = true) (hp : t.points = s.points.set p (some n))
    (hr : sharingOf t.refs = sharingOf s.refs) : t.SharingSound := by
  intro k m hm x hx
  obtain ⟨y, hy, hyowner, hyopen⟩ := exists_of_sharingOf_eq hr hx
  rw [hp, getElem_setFin] at hm
  rw [← hyowner, ← hyopen]
  split at hm
  · obtain rfl : n = m := Option.some.inj hm
    exact (sharedWith_iff y n.owner).mp (htest y hy)
  · exact h k m hm y hy

/-- A reference is written that keeps its owner and its open flag. -/
theorem refWritten {x y : RefRecord} (h : s.SharingSound) (hx : s.refs[r] = some x)
    (hr : t.refs = s.refs.set r (some y)) (howner : y.owner = x.owner) (hopen : y.isOpen = x.isOpen)
    (hp : t.points = s.points) : t.SharingSound :=
  h.congr hp (by rw [hr, sharingOf_set hx howner hopen])

/-- No point is bound to a reference that is newly defined, since every point's reference is defined (R50). -/
theorem refDefined {x : RefRecord} (h : s.SharingSound) (hc : s.CountsAgree) (hv : s.refs[r] = none)
    (hp : t.points = s.points) (hr : t.refs = s.refs.set r (some x)) : t.SharingSound := by
  obtain ⟨-, hdefined⟩ := hc
  intro p q hq y hy
  rw [hp] at hq
  have hne : q.reference ≠ r := by
    intro e
    have := hdefined p q hq
    simp [e, hv] at this
  rw [hr, getElem_setFin, if_neg hne] at hy
  exact h p q hq y hy

/-- A reference keeps its owner, and stays open or passes the closing test when it was open (R34). -/
theorem refAmended {x y : RefRecord} (h : s.SharingSound) (hx : s.refs[r] = some x) (howner : y.owner = x.owner)
    (hopen : x.isOpen = true → y.isOpen = true ∨ s.closingTest r x = true) (hp : t.points = s.points)
    (hr : t.refs = s.refs.set r (some y)) : t.SharingSound := by
  intro p q hq z hz
  rw [hp] at hq
  rw [hr, getElem_setFin] at hz
  split at hz
  · next e =>
    obtain rfl : y = z := Option.some.inj hz
    rw [howner]
    rcases h p q hq x (e ▸ hx) with ho | ho | ho
    · exact .inl ho
    · rcases hopen ho with hy | ht
      · exact .inr (.inl hy)
      · exact ((closingTest_iff s r x).mp ht p q hq e).imp_right .inr
    · exact .inr (.inr ho)
  · exact h p q hq z hz

theorem refRetired (h : s.SharingSound) (hp : t.points = s.points) (hr : t.refs = s.refs.set r none) :
    t.SharingSound := by
  intro p q hq z hz
  rw [hp] at hq
  rw [hr, getElem_setFin] at hz
  split at hz
  · cases hz
  · exact h p q hq z hz

/-- A part without points. -/
theorem cleared (hp : t.points = Vector.replicate 48 none) : t.SharingSound := by
  simp [State.SharingSound, hp]

/-! ### The commands -/

theorem fillSlot {f : PointFields} {source : Byte} {x : RefRecord} (h : s.SharingSound)
    (hx : s.refs[refOf f.reference] = some x) (hs : sharedWith x source = true) :
    (s.fillSlot p (definedRecord f source)).SharingSound := by
  refine h.placed (p := p) (n := definedRecord f source) ?_ (by simp [State.fillSlot]) (by simp [State.fillSlot])
  rintro y hy
  obtain rfl : x = y := Option.some.inj (hx.symm.trans hy)
  exact hs

/-- An amendment that names a reference has passed the test for it, and one that names none keeps it (R32). -/
theorem amendSlot {q : PointRecord} {mask : Half} {f : PointFields} (h : s.SharingSound) (hq : s.points[p] = some q)
    (hs : (!mask.getLsbD 2 || (s.refs[refOf f.reference]).any (fun x => sharedWith x q.owner)) = true) :
    (s.amendSlot p q (amendedRecord mask f q)).SharingSound := by
  have hrefs : sharingOf (s.amendSlot p q (amendedRecord mask f q)).refs = sharingOf s.refs := by
    simp [State.amendSlot, apply_ite State.refs, apply_ite sharingOf, State.leavePoint]
  by_cases hm : mask.getLsbD 2 = true
  · have href : (amendedRecord mask f q).reference = refOf f.reference := if_pos hm
    refine h.placed (n := amendedRecord mask f q) ?_ (amendSlot_points ..) hrefs
    intro x hx
    simp only [href, Option.mem_def] at hx
    rw [hm, hx] at hs
    exact hs
  · exact h.written hq (amendSlot_points ..) rfl (if_neg hm) hrefs

theorem start {q : PointRecord} (h : s.SharingSound) (hq : s.points[p] = some q) : (s.start p q).SharingSound := by
  refine h.written hq (n := { q with
    state := .live, faults := 0, alarm := .unknown
    deadline := some (s.clock + freshnessLimit q.interval q.staleFactor) }) ?_ rfl rfl ?_ <;> simp [State.start]

theorem stopLive {q : PointRecord} (h : s.SharingSound) (hq : s.points[p] = some q) : (s.stopLive p q).SharingSound := by
  refine h.written hq (n := { q with state := .dormant, alarm := .unknown, deadline := none }) ?_ rfl rfl ?_ <;>
    simp [State.stopLive]

theorem retire (h : s.SharingSound) (p : Slot) (q : PointRecord) : (s.retire p q).SharingSound :=
  h.retired (retire_points ..)
    (by simp [State.retire, State.leavePoint, apply_ite State.refs, apply_ite sharingOf])

/-- A point that the test admits moves to its new owner (R33). -/
theorem moveOwner {q : PointRecord} {owner : Byte} (h : s.SharingSound) (ha : s.admits q owner = true) :
    (s.moveOwner p q owner).SharingSound := by
  rw [moveOwner_eq]
  refine h.placed ?_ rfl rfl
  exact fun x hx => (admits_eq hx owner).symm.trans ha

/-- An amendment that closes an open reference has passed the closing test (R34). -/
theorem amendRef {x : RefRecord} {mask isOpen excitation : Byte} {span recal : Half} (h : s.SharingSound)
    (hx : s.refs[r] = some x) (ht : (!(mask.getLsbD 0 && !flagOf isOpen && x.isOpen) || s.closingTest r x) = true) :
    (s.setRef r (some (amendedRef mask isOpen excitation span recal x))).SharingSound := by
  have howner : (amendedRef mask isOpen excitation span recal x).owner = x.owner := by
    simp [amendedRef, apply_ite RefRecord.owner]
  have hflag : (amendedRef mask isOpen excitation span recal x).isOpen =
      if mask.getLsbD 0 = true then flagOf isOpen else x.isOpen := by
    simp [amendedRef, apply_ite RefRecord.isOpen]
  refine h.refAmended hx howner (fun ho => ?_) rfl rfl
  rw [hflag]
  cases hm : mask.getLsbD 0 with
  | false => exact .inl ho
  | true =>
    cases hf : flagOf isOpen with
    | true => exact .inl rfl
    | false =>
      rw [hm, hf, ho] at ht
      exact .inr ht

theorem callCalibration {x : RefRecord} (h : s.SharingSound) (hx : s.refs[r] = some x) :
    ((s.setRef r (some { x with request := true })).callCalibration r).SharingSound :=
  h.refWritten (y := { x with request := true }) hx (callCalibration_refs ..) rfl rfl (callCalibration_points ..)

theorem emptyRef (h : s.SharingSound) (r : RefId) : (s.emptyRef r).SharingSound := by
  rw [State.emptyRef, abortJob_eq]
  exact h.refRetired rfl rfl

theorem noticesRead (h : s.SharingSound) (source : Byte) : (s.noticesRead source).SharingSound :=
  h.congr (noticesRead_points ..) (by unfold State.noticesRead; rfl)

/-! ### The timed fields and the outcomes of a job -/

theorem expireDeadline (h : s.SharingSound) (p : Slot) : (s.expireDeadline p).SharingSound := by
  unfold State.expireDeadline
  split
  · next q hq =>
    split
    · split
      · exact h.written hq rfl rfl rfl rfl
      · exact h.written hq (n := { q with quality := .stale, alarm := .fault, deadline := none }) (by simp) rfl rfl (by simp)
    · exact h
  · exact h

theorem expireOffer (h : s.SharingSound) (p : Slot) : (s.expireOffer p).SharingSound := by
  unfold State.expireOffer
  split
  · next q hq =>
    split
    · dsimp only
      split <;> exact h.written hq rfl rfl rfl rfl
    · exact h
  · exact h

theorem expireLocate (h : s.SharingSound) (p : Slot) : (s.expireLocate p).SharingSound := by
  unfold State.expireLocate
  split
  · next q hq =>
    split
    · exact h.written hq rfl rfl rfl rfl
    · exact h
  · exact h

theorem evaluateMeasurement (h : s.SharingSound) (p : Slot) (start : Clock) (v : Half) (q : Quality) :
    (s.evaluateMeasurement p start v q).SharingSound := by
  unfold State.evaluateMeasurement
  split
  · next r hr =>
    refine h.written (n := measuredRecord r v q s.clock) hr ?_ rfl rfl ?_
    · simp [apply_ite State.points]
    · simp [apply_ite State.refs]
  · exact h

theorem evaluateFault (h : s.SharingSound) (p : Slot) (start : Clock) (q : Quality) :
    (s.evaluateFault p start q).SharingSound := by
  unfold State.evaluateFault
  split
  · next r hr =>
    refine h.written (n := faultedRecord r q) hr ?_ rfl rfl ?_
    · simp [apply_ite State.points]
    · simp [apply_ite State.refs, apply_ite sharingOf]
  · exact h

theorem applyCount (h : s.SharingSound) (r : RefId) (n : BitVec 22) : (s.applyCount r n).SharingSound := by
  unfold State.applyCount
  split
  · next x hx =>
    refine h.refWritten (y := calibratedRef x n s.clock) hx ?_ rfl rfl ?_
    · simp [apply_ite State.refs, State.joinRef]
    · simp [apply_ite State.points, State.joinRef]
  · exact h

theorem applyRefFault (h : s.SharingSound) (r : RefId) (f : RefFault) : (s.applyRefFault r f).SharingSound := by
  unfold State.applyRefFault
  split
  · next x hx =>
    refine h.refWritten (y := failedRef x f s.clock) hx ?_ rfl rfl ?_
    · simp [apply_ite State.refs, State.joinRef]
    · simp [apply_ite State.points, State.joinRef]
  · exact h

theorem returnRef (h : s.SharingSound) (r : RefId) (due : Clock) : (s.returnRef r due).SharingSound := by
  unfold State.returnRef
  split
  · next x hx =>
    refine h.refWritten (y := restoredRef x) hx ?_ rfl rfl ?_
    · simp [apply_ite State.refs]
    · simp [apply_ite State.points]
  · exact h

/-! ### The events of the converter and the due queue -/

theorem deliverPoint {j : Job} {outcome : Slot → State → State} (h : s.SharingSound)
    (ho : ∀ p, (outcome p s).SharingSound) : (s.deliverPoint j outcome).SharingSound := by
  unfold State.deliverPoint
  split
  · exact ho _
  · exact h

theorem deliverRef {j : Job} {outcome : RefId → State → State} (h : s.SharingSound)
    (ho : ∀ r, (outcome r s).SharingSound) : (s.deliverRef j outcome).SharingSound := by
  unfold State.deliverRef
  split
  · exact ho _
  · exact h

/-- The end of a phase touches the converter alone. -/
theorem endPhase (h : s.SharingSound) : s.endPhase.SharingSound := h

theorem sensorOverflow (h : s.SharingSound) (frequency : Nat) : (s.sensorOverflow frequency).SharingSound := by
  unfold State.sensorOverflow
  split
  · split
    · exact h.endPhase.deliverPoint fun p => h.endPhase.evaluateFault p _ .short
    · exact h
  · exact h

theorem windowEnd (h : s.SharingSound) (frequency : Nat) : (s.windowEnd frequency).SharingSound := by
  unfold State.windowEnd
  split
  · dsimp only
    split
    · exact h
    · refine h.endPhase.deliverPoint fun p => ?_
      split
      · exact h.endPhase.evaluateFault p _ .open
      · exact h.endPhase.evaluateMeasurement p _ _ _
  · exact h

theorem countComplete (h : s.SharingSound) (frequency : Nat) : (s.countComplete frequency).SharingSound := by
  unfold State.countComplete
  split
  · split
    · refine h.endPhase.deliverRef fun r => ?_
      split
      · exact h.endPhase.applyCount r _
      · exact h.endPhase.applyRefFault r .refShort
    · exact h
  · exact h

theorem timeBaseLimit (h : s.SharingSound) (frequency : Nat) : (s.timeBaseLimit frequency).SharingSound := by
  unfold State.timeBaseLimit
  split
  · split
    · exact h
    · exact h.endPhase.deliverRef fun r => h.endPhase.applyRefFault r .refOpen
  · exact h

theorem latchSupply (h : s.SharingSound) (vdda : Nat) : (s.latchSupply vdda).SharingSound := by
  unfold State.latchSupply
  split
  · split
    · unfold State.enterPhase
      split <;> exact h
    · unfold State.returnUnrun
      dsimp only
      split
      · exact returnRef (s := s.setConverter { s.converter with state := .hold }) h _ _
      · exact h
  · exact h

/-- A reference that is handed over becomes CALIBRATING and stays shared as it was (R57). -/
theorem handRef {x : RefRecord} (h : s.SharingSound) (hx : s.refs[r] = some x) (due : Clock) :
    (s.handRef r x due).SharingSound :=
  h.refWritten (y := startedRef x) hx rfl rfl rfl rfl

theorem dispatchHead (h : s.SharingSound) (e : QueueEntry) : (s.dispatchHead e).SharingSound := by
  unfold State.dispatchHead
  split
  · split
    · next x hx => exact h.handRef hx _
    · exact h
  · next p _ =>
    split
    · split
      · next x hx =>
        split
        · exact h
        · exact h.handRef hx _
        · exact evaluateFault (s := s.removeEntry (.point p)) h p _ .refFault
        · exact h
      · exact h
    · exact h

theorem dispatched (h : s.SharingSound) : s.dispatched.SharingSound := by
  unfold State.dispatched
  split
  · split
    · exact h.dispatchHead _
    · exact h
  · exact h

theorem endHold (h : s.SharingSound) : s.endHold.SharingSound := by
  unfold State.endHold
  split <;> exact h

/-! ### The events of the other units touch neither table -/

theorem atBoundary (h : s.SharingSound) (c : ChannelId) : (s.atBoundary c).SharingSound := by
  unfold State.atBoundary
  split <;> exact h

theorem atDuty (h : s.SharingSound) (c : ChannelId) : (s.atDuty c).SharingSound := by
  unfold State.atDuty
  split <;> exact h

theorem dimEnded (h : s.SharingSound) (c : Column) : (s.dimEnded c).SharingSound := by
  unfold State.dimEnded
  split <;> exact h

theorem blanked (h : s.SharingSound) : s.blanked.SharingSound := by
  unfold State.blanked
  split <;> exact h

theorem echoed (h : s.SharingSound) (data : Byte) (mark stop : Bool) : (s.echoed data mark stop).SharingSound := by
  unfold State.echoed
  split
  · exact h
  · split
    · split <;> exact h
    · exact h

/-! ### Every row -/

theorem complete {code : Byte} {command : Byte → List Byte → State → Answer} (h : s.SharingSound)
    (he : complete code command s = .next t)
    (hc : ∀ source payload, (command source payload s).Leaves State.SharingSound) : t.SharingSound :=
  complete_keeps he h (fun _ _ hu => hu) fun f _ => hc f.source f.payload

theorem running (h : s.SharingSound) {u : State} (he : running s u = .next t) (hu : u.SharingSound) : t.SharingSound :=
  running_keeps he h hu

theorem unknownCommand (h : s.SharingSound) (he : execUnknownCommand s = .next t) : t.SharingSound := by
  unfold execUnknownCommand at he
  split at he
  · split at he <;> exact Host.Outcome.next.inj he ▸ h
  · exact Host.Outcome.next.inj he ▸ h

theorem resetRelease {addr : BitVec 3} {rate : BitVec 2} (h : s.SharingSound)
    (he : execResetRelease addr rate s = .next t) : t.SharingSound := by
  unfold execResetRelease at he
  split at he
  · exact Host.Outcome.next.inj he ▸ cleared rfl
  · exact Host.Outcome.next.inj he ▸ h

end State.SharingSound

/-- Every row keeps the open-reference condition; only DEFINE_REF needs that every point's reference is defined. -/
theorem exec_sharingSound {c : Instr} {s t : State} (hc : s.CountsAgree) (h : s.SharingSound) (he : exec c s = .next t) :
    t.SharingSound := by
  cases c with
  | definePoint =>
    exact h.complete he fun _ _ => definePoint_leaves fun _ _ _ _ hx _ _ _ hs =>
      leaves_bindingTest (h.fillSlot hx hs)
  | amendPoint =>
    exact h.complete he fun _ _ => amendPoint_leaves fun _ _ _ _ hr _ _ _ _ hs =>
      leaves_bindingTest (h.amendSlot hr hs)
  | startPoint => exact h.complete he fun _ _ => startPoint_leaves fun _ _ hr _ => h.start hr
  | stopPoint =>
    exact h.complete he fun _ _ => stopPoint_leaves (fun _ _ hr _ => h.stopLive hr)
      fun _ _ hr _ => h.written hr rfl rfl rfl rfl
  | retirePoint => exact h.complete he fun _ _ => retirePoint_leaves fun p r _ => h.retire p r
  | readPoint => exact h.complete he fun _ _ => readPoint_leaves h
  | findTag => exact h.complete he fun _ _ => findTag_leaves h
  | listPoints => exact h.complete he fun _ _ => listPoints_leaves h
  | offerPoint =>
    exact h.complete he fun _ _ => offerPoint_leaves fun _ _ _ hr _ _ _ => h.written hr rfl rfl rfl rfl
  | withdrawOffer =>
    exact h.complete he fun _ _ => withdrawOffer_leaves fun _ _ hr => h.written hr rfl rfl rfl rfl
  | takePoint =>
    exact h.complete he fun _ _ => takePoint_leaves fun _ _ _ _ ha => h.moveOwner ha
  | assignOwner =>
    exact h.complete he fun _ _ => assignOwner_leaves fun _ _ _ _ _ _ ha => h.moveOwner ha
  | defineRef =>
    exact h.complete he fun _ _ => defineRef_leaves fun _ _ _ _ _ hv _ => h.refDefined hc hv rfl rfl
  | amendRef =>
    exact h.complete he fun _ _ => amendRef_leaves fun _ _ _ _ _ _ _ hx _ _ _ ht => h.amendRef hx ht
  | calibrateRef =>
    exact h.complete he fun _ _ => calibrateRef_leaves fun _ _ hx _ =>
      h.callCalibration hx
  | readRef => exact h.complete he fun _ _ => readRef_leaves h
  | retireRef => exact h.complete he fun _ _ => retireRef_leaves fun r _ _ _ => h.emptyRef r
  | measureNow => exact h.complete he fun _ _ => measureNow_leaves fun _ => h
  | measureOwned => exact h.complete he fun _ _ => measureOwned_leaves fun _ => h
  | configureDrive => exact h.complete he fun _ _ => configureDrive_leaves fun _ _ _ _ _ _ => h
  | setDriveLevels => exact h.complete he fun _ _ => setDriveLevels_leaves fun _ _ => h
  | setDrivePeriod => exact h.complete he fun _ _ => setDrivePeriod_leaves fun _ _ _ => h
  | setManualDuty => exact h.complete he fun _ _ => setManualDuty_leaves fun _ _ => h
  | enableDrive => exact h.complete he fun _ _ => enableDrive_leaves fun _ _ => h
  | disableDrive => exact h.complete he fun _ _ => disableDrive_leaves fun _ => h
  | releaseDrive => exact h.complete he fun _ _ => releaseDrive_leaves fun _ _ _ => h
  | readDrive => exact h.complete he fun _ _ => readDrive_leaves h
  | locatePoint =>
    exact h.complete he fun _ _ => locatePoint_leaves fun _ _ _ hr => h.written hr rfl rfl rfl rfl
  | readNotices => exact h.complete he fun _ _ => readNotices_leaves (h.noticesRead _)
  | readStatus => exact h.complete he fun _ _ => readStatus_leaves h
  | clearCauses => exact h.complete he fun _ _ => clearCauses_leaves h
  | setDevice => exact h.complete he fun _ _ => setDevice_leaves fun _ => h
  | clearTables => exact h.complete he fun _ _ => clearTables_leaves (.cleared rfl)
  | unknownCommand => exact h.unknownCommand he
  | hardwareReset => exact Host.Outcome.next.inj he ▸ .cleared rfl
  | resetRelease addr rate => exact h.resetRelease he
  | scheduleClockStep => exact h.running he h
  | fallingDue => exact h.running he h
  | offerExpiry slot => exact h.running he (h.expireOffer slot)
  | locateExpiry slot => exact h.running he (h.expireLocate slot)
  | freshnessDeadlineExpiry slot => exact h.running he (h.expireDeadline slot)
  | dispatch => exact h.running he (h.dispatched)
  | supplyCheckLatch vdda => exact h.running he (h.latchSupply vdda)
  | holdExpiry => exact h.running he (h.endHold)
  | referenceCountComplete frequency => exact h.running he (h.countComplete frequency)
  | referenceTimeBaseLimit frequency => exact h.running he (h.timeBaseLimit frequency)
  | sensorCountOverflow frequency => exact h.running he (h.sensorOverflow frequency)
  | sensorWindowEnd frequency => exact h.running he (h.windowEnd frequency)
  | periodBoundary channel => exact h.running he (h.atBoundary channel)
  | rowSlotStart => exact h.running he h
  | cellOnTimeEnd column => exact h.running he (h.dimEnded column)
  | blankingGap => exact h.running he (h.blanked)
  | addressCharacter value => exact h.running he h
  | dataCharacter value => exact h.running he h
  | stopBitError data mark => exact h.running he h
  | idleGap => exact h.running he h
  | lineBreak => exact h.running he h
  | lineRise => exact h.running he h
  | turnaroundEnd => exact h.running he h
  | characterEcho data mark stop => exact h.running he (h.echoed data mark stop)
  | driveDutyCount channel => exact h.running he (h.atDuty channel)

/-- Settles O13: every row that gives a point a reference or an owner, or closes a reference, has made the test, and a reference
that is newly defined has no points. -/
theorem sharingSoundAfterEveryStep : Obligations.SharingSoundAfterEveryStep := by
  intro s t hc hs h
  rcases step_next h with rfl | ⟨c, rest, -, h⟩
  · exact hs
  · exact exec_sharingSound (s := { s with pending := rest }) hc hs h

end Sys2Proof.Machine

/-! SUPPORT. DEFINE_REF, AMEND_REF, CALIBRATE_REF, READ_REF and RETIRE_REF: what each completes to. -/

namespace Sys2Proof.Machine

/-! ### READ_REF -/

/-- Five presence bits are read back from their byte, and the bits above them are 0 (R189). -/
theorem bitsByte_five : ∀ a b c d e : Bool,
    (bitsByte [a, b, c, d, e]).toNat < 32 ∧ (bitsByte [a, b, c, d, e]).getLsbD 0 = a ∧
    (bitsByte [a, b, c, d, e]).getLsbD 1 = b ∧ (bitsByte [a, b, c, d, e]).getLsbD 2 = c ∧
    (bitsByte [a, b, c, d, e]).getLsbD 3 = d ∧ (bitsByte [a, b, c, d, e]).getLsbD 4 = e := by
  decide

theorem readRef_refByte {s : State} {r : RefId} {x : RefRecord} (h : s.refs[r] = some x) (source : Byte) :
    readRef source [refByte r] s = .ok s (refReply r x ((entryIn s.queue (.ref r)).map QueueEntry.due)) := by
  simp only [readRef, onRef_some h, State.entryOf]

/-- Settles O36: the reply is the 31 bytes in their order; what is left is the presence byte. -/
theorem readRefReplyFollowsItsTable : Obligations.ReadRefReplyFollowsItsTable := by
  refine ⟨⟨rfl, rfl, rfl, rfl, fun _ => rfl⟩, ?_⟩
  intro s kind source r x h hx due
  refine ⟨refReply r x due, completes_ok rfl h (readRef_refByte hx source) rfl, ?_⟩
  simp only [refReply, slice, be16, be32, countByte, List.cons_append, List.nil_append, List.length_cons, List.length_nil,
    List.drop_succ_cons, List.take_succ_cons, List.drop_zero, List.take_zero, Nat.reduceSub, Nat.reduceAdd, true_and, and_true]
  exact ⟨_, rfl, bitsByte_five ..⟩

/-! ### CALIBRATE_REF and RETIRE_REF -/

/-- A command answered ACCEPTED: the part as the command leaves it, with the reply placed (R56, R182). -/
theorem completes_accepted {c : Instr} {code : Byte} {command : Byte → List Byte → State → Answer} {s t : State}
    {kind : FrameKind} {source : Byte} {payload : List Byte} (hc : exec c s = complete code command s)
    (h : s.holds kind source code payload) (ha : command source payload s = .accepted t) (ht : t.port = s.port) :
    exec c s = .next { t with port := s.answered kind source 0x01 [] } := by
  rw [hc, complete_holds h, ha, finish_accepted ht]

/-- The queue's part of CALIBRATE_REF: an entry due now, placed anew unless one is there that is not after now (R56). -/
theorem callCalibration_eq (s : State) (r : RefId) : s.callCalibration r = { s with
    queue := match entryIn s.queue (.ref r) with
      | none => placeEntry ⟨.ref r, s.clock, true⟩ s.queue
      | some e => if isAfter e.due s.clock then placeEntry ⟨.ref r, s.clock, true⟩ (removeFrom s.queue (.ref r))
        else s.queue } := by
  unfold State.callCalibration State.entryOf
  cases he : entryIn s.queue (.ref r) with
  | none => simp [State.insertEntry, State.setQueue, insertInto_none he]
  | some e =>
    by_cases ha : isAfter e.due s.clock = true
    · simp [ha, State.moveEntry, State.setQueue, moveWithin_some he]
    · simp [ha]

/-- The changes of RETIRE_REF as one update of the part (R63, R86). -/
theorem emptyRef_eq (s : State) (r : RefId) : s.emptyRef r = { s with
    converter := if s.isCurrent (.ref r) then { state := .idle, measurement := 0, timeBase := 0 } else s.converter
    queue := removeFrom s.queue (.ref r)
    noticeRefs := s.noticeRefs.set r false
    refs := s.refs.set r none } := by
  rw [State.emptyRef, abortJob_eq]
  rfl

/-- CALIBRATE_REF of an admitted source on a defined reference: one check is left (R56). -/
theorem calibrateRef_admitted {s : State} {source : Byte} {r : RefId} {x : RefRecord} (hx : s.refs[r] = some x)
    (ha : admitted source x.owner) : calibrateRef source [refByte r] s =
      require (x.state != .calibrating) .inFlight
        (.accepted ((s.setRef r (some { x with request := true })).callCalibration r)) := by
  simp only [calibrateRef, onRef_some hx, mayChange_of_admitted ha, require_true]

/-- RETIRE_REF of an admitted source on a defined reference: one check is left (R63). -/
theorem retireRef_admitted {s : State} {source : Byte} {r : RefId} {x : RefRecord} (hx : s.refs[r] = some x)
    (ha : admitted source x.owner) : retireRef source [refByte r] s =
      require (x.users == 0) .inUse (.ok (s.emptyRef r) []) := by
  simp only [retireRef, onRef_some hx, mayChange_of_admitted ha, require_true]

/-- Settles O35: each command by its one check, with the changes as one update of the part. -/
theorem referencesAreCalibratedOnRequestAndRetired : Obligations.ReferencesAreCalibratedOnRequestAndRetired := by
  constructor
  · intro s kind source r x h hx ha
    have hanswer := calibrateRef_admitted hx ha
    constructor
    · intro hc
      rw [bne_iff_ne.mpr hc, require_true, callCalibration_eq] at hanswer
      exact completes_accepted rfl h hanswer rfl
    · intro hc
      exact completes_refused rfl h (hanswer ▸ refusedWith_require (by simp [hc]) .inFlight _)
  · intro s kind source r x h hx ha
    have hanswer := retireRef_admitted hx ha
    constructor
    · intro hu
      rw [beq_iff_eq.mpr hu, require_true, emptyRef_eq] at hanswer
      exact completes_ok rfl h hanswer rfl
    · intro hu
      exact completes_refused rfl h (hanswer ▸ refusedWith_require (by simp; omega) .inUse _)

/-! ### DEFINE_REF and AMEND_REF -/

theorem flagOf_eq (b : Byte) : flagOf b = decide (b = 1) := rfl

theorem excitationOf_eq (b : Byte) : excitationOf b = if b = 1 then .alternating else .dc := by
  simp [excitationOf]

/-- DEFINE_REF of a reference: the checks on its record and its fields (R53). -/
theorem defineRef_bytes (s : State) (source isOpen excitation : Byte) (span recal : Half) (r : RefId) :
    defineRef source ([refByte r, isOpen, excitation] ++ be16 span ++ be16 recal) s =
      require (s.refs[r]).isNone .slotTaken
        (require (refFieldsInRange (fun _ => true) isOpen excitation span recal) .badValue
          (.ok (s.setRef r (some (definedRef source isOpen excitation span recal))) [])) := by
  simp only [defineRef, be16, List.cons_append, List.nil_append, half_be16, refCoded_refByte, refOf_refByte, require_true]

/-- The fields of DEFINE_REF and the present ones of AMEND_REF within range, as a proposition (R53, R54 check 6). -/
theorem refFieldsInRange_iff (present : Nat → Bool) (isOpen excitation : Byte) (span recal : Half) :
    refFieldsInRange present isOpen excitation span recal = true ↔
      (present 0 = true → isOpen.toNat ≤ 1) ∧ (present 1 = true → excitation.toNat ≤ 1) ∧
      (present 2 = true → 256 ≤ span.toNat) ∧ (present 3 = true → recal ≠ 0) := by
  simp only [refFieldsInRange, Bool.and_eq_true, absent_or_iff, flagCoded, decide_eq_true_eq, bne_iff_ne, and_assoc]

theorem timingPresent_iff (mask : Byte) : timingPresent mask = true ↔
    mask.getLsbD 1 = true ∨ mask.getLsbD 2 = true ∨ mask.getLsbD 3 = true := by
  simp only [timingPresent, Bool.or_eq_true, or_assoc]

/-- AMEND_REF of an admitted source on a defined reference: the four checks that are left (R54). -/
theorem amendRef_admitted {s : State} {source : Byte} {r : RefId} {x : RefRecord} (hx : s.refs[r] = some x)
    (ha : admitted source x.owner) (mask isOpen excitation : Byte) (span recal : Half) :
    amendRef source ([refByte r, mask, isOpen, excitation] ++ be16 span ++ be16 recal) s =
      require (!(x.state == .calibrating && timingPresent mask)) .wrongState
        (require (decide (mask.toNat < 16) && refFieldsInRange mask.getLsbD isOpen excitation span recal) .badValue
          (require (!(timingPresent mask && decide (0 < x.liveUsers))) .inUse
            (require (!(mask.getLsbD 0 && !flagOf isOpen && x.isOpen) || s.closingTest r x) .inUse
              (.ok (s.setRef r (some (amendedRef mask isOpen excitation span recal x))) [])))) := by
  simp only [amendRef, be16, List.cons_append, List.nil_append, half_be16, onRef_some hx, mayChange_of_admitted ha,
    require_true]

/-- The amended record as one update (R55). -/
theorem amendedRef_eq (mask isOpen excitation : Byte) (span recal : Half) (x : RefRecord) :
    amendedRef mask isOpen excitation span recal x =
      let newExcitation := if mask.getLsbD 1 = true then (if excitation = 1 then .alternating else .dc) else x.excitation
      let newSpan := if mask.getLsbD 2 = true then span else x.span
      let recalibrate := (newSpan ≠ x.span ∨ newExcitation ≠ x.excitation) ∧ (x.state = .valid ∨ x.state = .faulted)
      { x with
        isOpen := if mask.getLsbD 0 = true then decide (isOpen = 1) else x.isOpen
        excitation := newExcitation
        span := newSpan
        recal := if mask.getLsbD 3 = true then recal else x.recal
        state := if recalibrate then .uncal else x.state
        count := if recalibrate then none else x.count } := by
  simp only [amendedRef, excitationOf_eq, flagOf_eq, Bool.and_eq_true, Bool.or_eq_true, bne_iff_ne, beq_iff_eq]
  generalize (if mask.getLsbD 1 = true then (if excitation = 1 then Excitation.alternating else .dc) else x.excitation) = e
  generalize (if mask.getLsbD 2 = true then span else x.span) = n
  by_cases h : (n ≠ x.span ∨ e ≠ x.excitation) ∧ (x.state = .valid ∨ x.state = .faulted)
  · simp only [if_pos h]
  · simp only [if_neg h]

/-! ### The checks of AMEND_REF after its owner, as propositions (R54) -/

theorem amendRefState_iff (x : RefRecord) (mask : Byte) : (!(x.state == .calibrating && timingPresent mask)) = true ↔
    ((mask.getLsbD 1 = true ∨ mask.getLsbD 2 = true ∨ mask.getLsbD 3 = true) → x.state ≠ .calibrating) := by
  rw [Bool.not_eq_true', Bool.and_eq_false_imp, beq_iff_eq, Bool.eq_false_iff, ne_eq, timingPresent_iff]
  exact imp_not_comm

theorem amendRefRange_iff (mask isOpen excitation : Byte) (span recal : Half) :
    (decide (mask.toNat < 16) && refFieldsInRange mask.getLsbD isOpen excitation span recal) = true ↔
      mask.toNat < 16 ∧ (mask.getLsbD 0 = true → isOpen.toNat ≤ 1) ∧ (mask.getLsbD 1 = true → excitation.toNat ≤ 1) ∧
      (mask.getLsbD 2 = true → 256 ≤ span.toNat) ∧ (mask.getLsbD 3 = true → recal ≠ 0) := by
  rw [Bool.and_eq_true, decide_eq_true_iff, refFieldsInRange_iff]

theorem amendRefUnused_iff (x : RefRecord) (mask : Byte) : (!(timingPresent mask && decide (0 < x.liveUsers))) = true ↔
    ((mask.getLsbD 1 = true ∨ mask.getLsbD 2 = true ∨ mask.getLsbD 3 = true) → x.liveUsers = 0) := by
  rw [Bool.not_eq_true', Bool.and_eq_false_imp, timingPresent_iff]
  simp only [decide_eq_false_iff_not, Nat.not_lt, Nat.le_zero]

/-- A coded flag that is not set is 0. -/
theorem flagOf_eq_false_iff {b : Byte} (h : b.toNat ≤ 1) : flagOf b = false ↔ b = 0 := by
  rw [flagOf_eq, decide_eq_false_iff_not]
  bv_omega

/-- The closing test is made when an open reference is to be closed (R34). -/
theorem amendRefCloses_iff (s : State) (r : RefId) (x : RefRecord) {mask isOpen : Byte}
    (h : mask.getLsbD 0 = true → isOpen.toNat ≤ 1) :
    (!(mask.getLsbD 0 && !flagOf isOpen && x.isOpen) || s.closingTest r x) = true ↔
      (mask.getLsbD 0 = true ∧ isOpen = 0 ∧ x.isOpen = true → ∀ (p : Slot) (q : PointRecord), s.points[p] = some q →
        q.reference = r → q.owner = x.owner ∨ q.owner = 15) := by
  rw [absent_or_iff, Bool.and_eq_true, Bool.and_eq_true, and_assoc, closingTest_iff]
  refine imp_congr (and_congr_right fun hm => and_congr_left' ?_) ?_
  · rw [Bool.not_eq_true', flagOf_eq_false_iff (h hm)]
  · simp only [Option.mem_def, eq_comm]

/-- Settles O34: each command by its checks in their order, with the amended record as one update. -/
theorem referencesAreDefinedAndAmended : Obligations.ReferencesAreDefinedAndAmended := by
  constructor
  · intro s kind source isOpen excitation span recal r h
    have hanswer := defineRef_bytes s source isOpen excitation span recal r
    have hrange := refFieldsInRange_iff (fun _ => true) isOpen excitation span recal
    simp only [true_implies] at hrange
    refine ⟨fun hv ho he hspan hrecal => ?_, fun hv hout => ?_, fun hv => ?_⟩
    · rw [hv, hrange.mpr ⟨ho, he, hspan, hrecal⟩, definedRef, excitationOf_eq] at hanswer
      exact completes_ok rfl h hanswer rfl
    · have hfail : refFieldsInRange (fun _ => true) isOpen excitation span recal = false := by
        rw [Bool.eq_false_iff, ne_eq, hrange]
        rintro ⟨ho, he, hspan, hrecal⟩
        exact hout.elim (by omega) fun h => h.elim (by omega) fun h => h.elim (by omega) hrecal
      rw [hv] at hanswer
      exact completes_refused rfl h (hanswer ▸ refusedWith_require hfail .badValue _)
    · exact completes_refused rfl h (hanswer ▸ refusedWith_require (Option.isNone_eq_false_iff.mpr
        (Option.isSome_iff_ne_none.mpr hv)) .slotTaken _)
  · intro s kind source mask isOpen excitation span recal r x h hx ha timing inRange closes closable newExcitation newSpan
      recalibrate
    have hanswer := amendRef_admitted hx ha mask isOpen excitation span recal
    have hstate := amendRefState_iff x mask
    have hrange := amendRefRange_iff mask isOpen excitation span recal
    have hunused := amendRefUnused_iff x mask
    have hcloses : inRange → _ := fun ⟨_, hflag, _⟩ => amendRefCloses_iff s r x hflag
    refine ⟨fun ht hin hu hc => ?_, fun ht hc => ?_, fun ht hout => ?_, fun ht hin huse => ?_⟩
    · rw [hstate.mpr ht, hrange.mpr hin, hunused.mpr hu, (hcloses hin).mpr hc, amendedRef_eq] at hanswer
      exact completes_ok rfl h hanswer rfl
    · refine completes_refused rfl h (hanswer ▸ refusedWith_require ?_ .wrongState _)
      exact Bool.eq_false_iff.mpr fun e => hstate.mp e ht hc
    · rw [hstate.mpr ht, require_true] at hanswer
      exact completes_refused rfl h (hanswer ▸ refusedWith_require (Bool.eq_false_iff.mpr (mt hrange.mp hout)) .badValue _)
    · rw [hstate.mpr ht, hrange.mpr hin, require_true, require_true] at hanswer
      by_cases hu : timing → x.liveUsers = 0
      · have hopen : ¬ (closes → closable) := by
          rcases huse with ⟨ht, hpos⟩ | ⟨hcl, hno⟩
          · exact absurd (hu ht) (Nat.ne_of_gt hpos)
          · exact fun hc => hno (hc hcl)
        rw [hunused.mpr hu, require_true] at hanswer
        exact completes_refused rfl h
          (hanswer ▸ refusedWith_require (Bool.eq_false_iff.mpr (mt (hcloses hin).mp hopen)) .inUse _)
      · exact completes_refused rfl h
          (hanswer ▸ refusedWith_require (Bool.eq_false_iff.mpr (mt hunused.mp hu)) .inUse _)

end Sys2Proof.Machine

/-! SUPPORT. What every row can make of the reference table and of the bindings of the points to it, and the two invariants that
follow (R47, R48, R50). -/

namespace Sys2Proof.Machine

/-! ### The points as the counts see them (R50) -/

/-- What the counts read of a point: the reference that it is bound to, and whether it is LIVE. -/
def PointRecord.bound (q : PointRecord) : RefId × Bool := (q.reference, q.state == .live)

/-- What the counts read of the point table. -/
def State.bound (s : State) (p : Slot) : Option (RefId × Bool) := (s.points[p]).map PointRecord.bound

/-- The bindings of all slots, as the counts read them. -/
abbrev Bindings := Slot → Option (RefId × Bool)

/-- The reference table. -/
abbrev RefTable := Vector (Option RefRecord) 4

/-- What a slot counts towards the users of a reference. -/
def usersIn : Option (RefId × Bool) → RefId → Nat
  | none, _ => 0
  | some (r, _), k => if k = r then 1 else 0

/-- What a slot counts towards the live users of a reference. -/
def liveUsersIn : Option (RefId × Bool) → RefId → Nat
  | none, _ => 0
  | some (r, live), k => if k = r ∧ live = true then 1 else 0

/-- A live user is a user. -/
theorem liveUsersIn_le (b : Option (RefId × Bool)) (r : RefId) : liveUsersIn b r ≤ usersIn b r := by
  cases b with
  | none => rfl
  | some c =>
    by_cases h : r = c.1
    · cases hl : c.2 <;> simp [liveUsersIn, usersIn, h, hl]
    · simp [liveUsersIn, usersIn, h]

/-- A reference whose counts follow one slot from what it was to what it is. -/
def RefRecord.recounted (x : RefRecord) (r : RefId) (old new : Option (RefId × Bool)) : RefRecord :=
  { x with
    users := x.users + usersIn new r - usersIn old r
    liveUsers := x.liveUsers + liveUsersIn new r - liveUsersIn old r }

theorem bound_live {q : PointRecord} (h : q.state = .live) : q.bound = (q.reference, true) :=
  Prod.ext rfl (beq_iff_eq.mpr h)

theorem bound_not_live {q : PointRecord} (h : q.state ≠ .live) : q.bound = (q.reference, false) :=
  Prod.ext rfl (beq_eq_false_iff_ne.mpr h)

theorem bound_some {s : State} {p : Slot} {q : PointRecord} (h : s.points[p] = some q) : s.bound p = some q.bound := by
  simp only [State.bound, h, Option.map_some]

theorem bound_congr {s t : State} (h : t.points = s.points) : t.bound = s.bound := by
  funext p
  simp only [State.bound, h]

/-- One slot is written. -/
theorem bound_set {s t : State} {p : Slot} {n : Option PointRecord} (h : t.points = s.points.set p n) :
    t.bound = Function.update s.bound p (n.map PointRecord.bound) := by
  funext k
  simp only [State.bound, h, getElem_setFin, Function.update_apply]
  split <;> rfl

/-- A record is written that keeps its reference and stays LIVE or not LIVE. -/
theorem bound_written {s t : State} {p : Slot} {q n : PointRecord} (hq : s.points[p] = some q) (hn : n.bound = q.bound)
    (h : t.points = s.points.set p (some n)) : t.bound = s.bound := by
  rw [bound_set h, Option.map_some, hn, ← bound_some hq, Function.update_eq_self]

/-! ### The count operations, reference by reference -/

/-- One reference is written, if it is defined; every record reads as the same function of what it was. -/
theorem ref_of_written {s t : State} {r : RefId} {g : RefRecord → RefRecord}
    (hsome : ∀ x, s.refs[r] = some x → t.refs = s.refs.set r (some (g x))) (hnone : s.refs[r] = none → t.refs = s.refs)
    (k : RefId) : t.refs[k] = (s.refs[k]).map fun x => if k = r then g x else x := by
  by_cases hk : k = r
  · subst hk
    cases h : s.refs[k] with
    | none => rw [hnone h, h, Option.map_none]
    | some x => rw [hsome x h, getElem_setFin, if_pos rfl, Option.map_some, if_pos rfl]
  · simp only [if_neg hk, Option.map_id']
    cases h : s.refs[r] with
    | none => rw [hnone h]
    | some x => rw [hsome x h, getElem_setFin, if_neg hk]

theorem gainUser_ref (s : State) (r k : RefId) : (s.gainUser r).refs[k] =
    (s.refs[k]).map fun x => if k = r then { x with users := x.users + 1 } else x :=
  ref_of_written (fun _ h => by rw [gainUser_some h]) (fun h => by simp only [State.gainUser, h]) k

theorem loseUser_ref (s : State) (r k : RefId) : (s.loseUser r).refs[k] =
    (s.refs[k]).map fun x => if k = r then { x with users := x.users - 1 } else x :=
  ref_of_written (fun _ h => by rw [loseUser_some h]) (fun h => by simp only [State.loseUser, h]) k

theorem gainLiveUser_ref (s : State) (r k : RefId) : (s.gainLiveUser r).refs[k] =
    (s.refs[k]).map fun x => if k = r then { x with liveUsers := x.liveUsers + 1 } else x :=
  ref_of_written (fun _ h => by rw [gainLiveUser_some h]) (fun h => by simp only [State.gainLiveUser, h]) k

theorem loseLiveUser_ref (s : State) (r k : RefId) : (s.loseLiveUser r).refs[k] =
    (s.refs[k]).map fun x => if k = r then { x with liveUsers := x.liveUsers - 1 } else x :=
  ref_of_written (fun _ h => by rw [loseLiveUser_some h]) (fun h => by simp only [State.loseLiveUser, h]) k

/-! What each move of a slot does to the counts of a reference. -/

theorem recounted_filled (x : RefRecord) (r k : RefId) :
    x.recounted k none (some (r, false)) = if k = r then { x with users := x.users + 1 } else x := by
  by_cases h : k = r <;> simp [RefRecord.recounted, usersIn, liveUsersIn, h]

theorem recounted_rebound (x : RefRecord) {old new : RefId} (hne : new ≠ old) (k : RefId) :
    x.recounted k (some (old, false)) (some (new, false)) =
      if k = new then { x with users := x.users + 1 } else if k = old then { x with users := x.users - 1 } else x := by
  by_cases hnew : k = new
  · simp [RefRecord.recounted, usersIn, liveUsersIn, hnew, hne]
  · by_cases hold : k = old
    · simp [RefRecord.recounted, usersIn, liveUsersIn, hold, hne.symm]
    · simp [RefRecord.recounted, usersIn, liveUsersIn, hnew, hold]

theorem recounted_started (x : RefRecord) (r k : RefId) :
    x.recounted k (some (r, false)) (some (r, true)) = if k = r then { x with liveUsers := x.liveUsers + 1 } else x := by
  by_cases h : k = r <;> simp [RefRecord.recounted, usersIn, liveUsersIn, h]

theorem recounted_stopped (x : RefRecord) (r k : RefId) :
    x.recounted k (some (r, true)) (some (r, false)) = if k = r then { x with liveUsers := x.liveUsers - 1 } else x := by
  by_cases h : k = r <;> simp [RefRecord.recounted, usersIn, liveUsersIn, h]

theorem recounted_vacated (x : RefRecord) (r k : RefId) :
    x.recounted k (some (r, false)) none = if k = r then { x with users := x.users - 1 } else x := by
  by_cases h : k = r <;> simp [RefRecord.recounted, usersIn, liveUsersIn, h]

theorem recounted_vacated_live (x : RefRecord) (r k : RefId) : x.recounted k (some (r, true)) none =
    if k = r then { x with users := x.users - 1, liveUsers := x.liveUsers - 1 } else x := by
  by_cases h : k = r <;> simp [RefRecord.recounted, usersIn, liveUsersIn, h]

/-! ### How a row changes the reference table and the bindings -/

/-- What a row can make of a reference record beside its counts. -/
inductive RefChange (x : RefRecord) : RefRecord → Prop
  /-- The job is handed over (R57); the current job is the one CALIBRATING reference (R48). -/
  | started (h : x.state ≠ .calibrating) : RefChange x (startedRef x)
  /-- A count is delivered (R58), which is no short (R76). -/
  | calibrated (n : BitVec 22) (h : 64 ≤ n.toNat) (now : Clock) : RefChange x (calibratedRef x n now)
  /-- A fault is delivered (R59). -/
  | failed (f : RefFault) (now : Clock) : RefChange x (failedRef x f now)
  /-- The job is returned unrun (R60); only a CALIBRATING reference has a prior state (R47). -/
  | restored (h : x.state = .calibrating ∨ x.prior = none) : RefChange x (restoredRef x)
  /-- CALIBRATE_REF (R56). -/
  | requested : RefChange x { x with request := true }
  /-- AMEND_REF (R54, R55). -/
  | amended (mask isOpen excitation : Byte) (span recal : Half)
    (h : refFieldsInRange mask.getLsbD isOpen excitation span recal = true) :
    RefChange x (amendedRef mask isOpen excitation span recal x)

/-- What a row can make of the reference table and of the bindings of the points to it. -/
inductive RefsChange (refs : RefTable) (bound : Bindings) (refs' : RefTable) (bound' : Bindings) : Prop
  /-- Every row that is not named below. -/
  | kept (hr : refs' = refs) (hb : bound' = bound)
  /-- One record is written, with the counts that it had. -/
  | written (r : RefId) (x y : RefRecord) (hx : refs[r] = some x) (hy : RefChange x y)
    (hr : refs' = refs.set r (some y)) (hb : bound' = bound)
  /-- DEFINE_REF (R53). -/
  | defined (r : RefId) (source isOpen excitation : Byte) (span recal : Half) (hv : refs[r] = none)
    (hf : refFieldsInRange (fun _ => true) isOpen excitation span recal = true)
    (hr : refs' = refs.set r (some (definedRef source isOpen excitation span recal))) (hb : bound' = bound)
  /-- RETIRE_REF (R63). -/
  | emptied (r : RefId) (x : RefRecord) (hx : refs[r] = some x) (hu : x.users = 0) (hr : refs' = refs.set r none)
    (hb : bound' = bound)
  /-- A slot takes another reference or another part in the live users, and the counts follow it (R50). -/
  | moved (p : Slot) (new : Option (RefId × Bool))
    (hd : ∀ b ∈ new, (∃ a ∈ bound p, a.1 = b.1) ∨ (refs[b.1]).isSome = true)
    (hr : ∀ k : RefId, refs'[k] = (refs[k]).map fun x => x.recounted k (bound p) new)
    (hb : bound' = Function.update bound p new)
  /-- CLEAR_TABLES and hardware reset (R172, R173). -/
  | cleared (hr : refs' = Vector.replicate 4 none) (hb : bound' = fun _ => none)

/-- How a row that leads from `s` to `t` changes the reference table and the bindings. -/
def State.RefsTo (s t : State) : Prop := RefsChange s.refs s.bound t.refs t.bound

namespace State.RefsTo

variable {s t : State} {p : Slot} {r : RefId}

/-- Neither table is touched. -/
theorem same (hp : t.points = s.points) (hr : t.refs = s.refs) : s.RefsTo t :=
  RefsChange.kept hr (bound_congr hp)

/-- A change begins as well from a part with the same tables. -/
theorem from_same {u : State} (h : u.RefsTo t) (hp : u.points = s.points) (hr : u.refs = s.refs) : s.RefsTo t := by
  unfold State.RefsTo at h ⊢
  rwa [← hr, ← bound_congr hp]

/-- A record is written that keeps its reference and stays LIVE or not LIVE. -/
theorem rewritten {q n : PointRecord} (hq : s.points[p] = some q) (hp : t.points = s.points.set p (some n))
    (hn : n.bound = q.bound) (hr : t.refs = s.refs) : s.RefsTo t :=
  RefsChange.kept hr (bound_written hq hn hp)

/-- A reference is written with the counts that it had. -/
theorem refWritten {x y : RefRecord} (hx : s.refs[r] = some x) (hy : RefChange x y) (hr : t.refs = s.refs.set r (some y))
    (hp : t.points = s.points) : s.RefsTo t :=
  RefsChange.written r x y hx hy hr (bound_congr hp)

/-- A slot is written, and the counts follow it. -/
theorem moved {q n : Option PointRecord} (hq : s.points[p] = q)
    (hd : ∀ m ∈ n, (∃ a ∈ q, a.reference = m.reference) ∨ (s.refs[m.reference]).isSome = true)
    (hp : t.points = s.points.set p n)
    (hr : ∀ k : RefId, t.refs[k] = (s.refs[k]).map fun x =>
      x.recounted k (q.map PointRecord.bound) (n.map PointRecord.bound)) : s.RefsTo t := by
  have hold : s.bound p = q.map PointRecord.bound := congrArg (Option.map PointRecord.bound) hq
  refine RefsChange.moved p (n.map PointRecord.bound) ?_ (hold ▸ hr) (bound_set hp)
  intro b hb
  obtain ⟨m, hm, rfl⟩ := Option.map_eq_some_iff.mp hb
  refine (hd m hm).imp_left ?_
  rintro ⟨a, ha, href⟩
  exact ⟨a.bound, hold ▸ Option.mem_map_of_mem _ ha, href⟩

/-- The counts follow a point that keeps its reference. -/
theorem restated {q n : PointRecord} (hq : s.points[p] = some q) (href : n.reference = q.reference)
    (hp : t.points = s.points.set p (some n))
    (hr : ∀ k : RefId, t.refs[k] = (s.refs[k]).map fun x => x.recounted k (some q.bound) (some n.bound)) : s.RefsTo t := by
  refine moved hq ?_ hp hr
  rintro m ⟨⟩
  exact .inl ⟨q, rfl, href.symm⟩

/-! ### The commands -/

theorem fillSlot {f : PointFields} {source : Byte} {x : RefRecord} (hv : s.points[p] = none)
    (hx : s.refs[refOf f.reference] = some x) : s.RefsTo (s.fillSlot p (definedRecord f source)) := by
  refine moved (n := some (definedRecord f source)) hv ?_ (by simp [State.fillSlot]) fun k => ?_
  · rintro m ⟨⟩
    exact .inr (Option.isSome_of_eq_some hx)
  · simp only [State.fillSlot, bindChannel_refs, gainUser_ref, State.setTag_refs, State.setPoint_refs]
    congr 1
    exact funext fun y => (recounted_filled y _ k).symm

/-- Only a point that is not LIVE takes another reference (R12), and it has found the new one defined. -/
theorem amendSlot {q : PointRecord} {mask : Half} {f : PointFields} (hq : s.points[p] = some q)
    (hl : (!(q.state == .live && staticPresent mask)) = true)
    (hs : (!mask.getLsbD 2 || (s.refs[refOf f.reference]).any (fun x => sharedWith x q.owner)) = true) :
    s.RefsTo (s.amendSlot p q (amendedRecord mask f q)) := by
  have href : (amendedRecord mask f q).reference = if mask.getLsbD 2 then refOf f.reference else q.reference := rfl
  by_cases he : (amendedRecord mask f q).reference = q.reference
  · refine rewritten (n := amendedRecord mask f q) hq (amendSlot_points ..) (Prod.ext he rfl) ?_
    simp [State.amendSlot, he, apply_ite State.refs, State.leavePoint]
  · have hm : mask.getLsbD 2 = true := by
      by_contra hm
      exact he (href.trans (if_neg hm))
    have hnot : q.state ≠ .live := by
      have hstatic : staticPresent mask = true := by simp only [staticPresent, hm, Bool.or_true, Bool.true_or]
      simpa [hstatic] using hl
    have hdefined : (s.refs[(amendedRecord mask f q).reference]).isSome = true := by
      rw [hm] at hs
      simp only [href, if_pos hm]
      exact Option.isSome_of_any hs
    refine moved (n := some (amendedRecord mask f q)) hq ?_ (amendSlot_points ..) fun k => ?_
    · rintro m ⟨⟩
      exact .inr hdefined
    · have hbound := bound_not_live hnot
      have hnew := bound_not_live (q := amendedRecord mask f q) hnot
      simp only [State.amendSlot, bne_iff_ne.mpr he, if_true, gainUser_ref, loseUser_ref, Option.map_some, hbound, hnew,
        recounted_rebound _ he, apply_ite State.refs, State.leavePoint, State.setNoticePoint_refs, bindChannel_refs,
        unbindChannel_refs, State.setTag_refs, State.setPoint_refs, ite_self, Option.map_map]
      congr 1
      funext x
      by_cases hk : k = (amendedRecord mask f q).reference <;> simp [hk, he]

theorem start {q : PointRecord} (hq : s.points[p] = some q) (hl : (q.state != .live) = true) : s.RefsTo (s.start p q) := by
  have hbound := bound_not_live (bne_iff_ne.mp hl)
  refine restated (n := { q with
    state := .live, faults := 0, alarm := .unknown
    deadline := some (s.clock + freshnessLimit q.interval q.staleFactor) }) hq rfl (by simp [State.start]) fun k => ?_
  simp only [State.start, requestLevel_refs, gainLiveUser_ref, insertEntry_refs, State.setPoint_refs, hbound]
  congr 1
  exact funext fun y => (recounted_started y _ k).symm

theorem stopLive {q : PointRecord} (hq : s.points[p] = some q) (hl : q.state = .live) : s.RefsTo (s.stopLive p q) := by
  have hbound := bound_live hl
  refine restated (n := { q with state := .dormant, alarm := .unknown, deadline := none }) hq rfl
    (by simp [State.stopLive]) fun k => ?_
  simp only [State.stopLive, requestLevel_refs, loseLiveUser_ref, withdraw_refs, State.setPoint_refs, hbound]
  congr 1
  exact funext fun y => (recounted_stopped y _ k).symm

theorem retire {q : PointRecord} (hq : s.points[p] = some q) : s.RefsTo (s.retire p q) := by
  refine moved (n := none) hq (by simp) (retire_points ..) fun k => ?_
  have hrefs : (s.retire p q).refs[k] =
      ((if q.state == .live then (s.withdraw p).loseLiveUser q.reference else s).refs[k]).map
        fun x => if k = q.reference then { x with users := x.users - 1 } else x := by
    simp only [State.retire, State.leavePoint, State.setNoticePoint_refs, unbindChannel_refs, loseUser_ref, State.setTag_refs,
      State.setPoint_refs]
  rw [hrefs]
  by_cases hl : q.state = .live
  · have hbound := bound_live hl
    rw [if_pos (beq_iff_eq.mpr hl), loseLiveUser_ref, withdraw_refs, Option.map_map, Option.map_some, hbound, Option.map_none]
    congr 1
    funext y
    rw [recounted_vacated_live]
    by_cases hk : k = q.reference <;> simp [hk]
  · have hbound := bound_not_live hl
    rw [if_neg (mt beq_iff_eq.mp hl), Option.map_some, hbound, Option.map_none]
    congr 1
    exact funext fun y => (recounted_vacated y _ k).symm

theorem moveOwner {q : PointRecord} (hq : s.points[p] = some q) (owner : Byte) : s.RefsTo (s.moveOwner p q owner) := by
  rw [moveOwner_eq]
  exact rewritten hq rfl rfl rfl

theorem callCalibration {x : RefRecord} (hx : s.refs[r] = some x) :
    s.RefsTo ((s.setRef r (some { x with request := true })).callCalibration r) :=
  refWritten (y := { x with request := true }) hx .requested (callCalibration_refs ..) (callCalibration_points ..)

theorem emptyRef {x : RefRecord} (hx : s.refs[r] = some x) (hu : (x.users == 0) = true) : s.RefsTo (s.emptyRef r) := by
  rw [emptyRef_eq]
  exact RefsChange.emptied r x hx (beq_iff_eq.mp hu) rfl rfl

theorem cleared (hp : t.points = Vector.replicate 48 none) (hr : t.refs = Vector.replicate 4 none) : s.RefsTo t :=
  RefsChange.cleared hr (by funext p; simp [State.bound, hp])

/-! ### The timed fields of a point -/

theorem expireDeadline (s : State) (p : Slot) : s.RefsTo (s.expireDeadline p) := by
  unfold State.expireDeadline
  split
  · next q hq =>
    split
    · split
      · exact rewritten hq rfl rfl rfl
      · exact rewritten (n := { q with quality := .stale, alarm := .fault, deadline := none }) hq (by simp) rfl (by simp)
    · exact same rfl rfl
  · exact same rfl rfl

theorem expireOffer (s : State) (p : Slot) : s.RefsTo (s.expireOffer p) := by
  unfold State.expireOffer
  split
  · next q hq =>
    split
    · dsimp only
      split <;> exact rewritten hq rfl rfl rfl
    · exact same rfl rfl
  · exact same rfl rfl

theorem expireLocate (s : State) (p : Slot) : s.RefsTo (s.expireLocate p) := by
  unfold State.expireLocate
  split
  · next q hq =>
    split
    · exact rewritten hq rfl rfl rfl
    · exact same rfl rfl
  · exact same rfl rfl

/-! ### The outcomes of a job -/

theorem evaluateMeasurement (s : State) (p : Slot) (start : Clock) (v : Half) (g : Quality) :
    s.RefsTo (s.evaluateMeasurement p start v g) := by
  unfold State.evaluateMeasurement
  split
  · next q hq =>
    refine rewritten (n := measuredRecord q v g s.clock) hq ?_ rfl ?_
    · simp [apply_ite State.points]
    · simp [apply_ite State.refs]
  · exact same rfl rfl

/-- A fault outcome takes a LIVE point out of the live users when it reaches the fault limit (R120). -/
theorem evaluateFault (hl : ∀ q, s.points[p] = some q → q.state = .live) (start : Clock) (g : Quality) :
    s.RefsTo (s.evaluateFault p start g) := by
  unfold State.evaluateFault
  split
  · next q hq =>
    have hlive := hl q hq
    by_cases hlim : reachesLimit q = true
    · refine restated (n := faultedRecord q g) hq rfl (by simp [hlim]) fun k => ?_
      have hnew : (faultedRecord q g).bound = (q.reference, false) := by
        simp [faultedRecord, PointRecord.bound, hlim]
      simp only [hlim, if_true, Bool.or_true, announce_refs, loseLiveUser_ref, State.setPoint_refs, bound_live hlive, hnew]
      congr 1
      exact funext fun y => (recounted_stopped y _ k).symm
    · refine rewritten (n := faultedRecord q g) hq ?_ ?_ ?_
      · simp [hlim, apply_ite State.points]
      · simp [faultedRecord, PointRecord.bound, hlim]
      · simp [hlim, apply_ite State.refs]
  · exact same rfl rfl

theorem applyCount (s : State) (r : RefId) {n : BitVec 22} (hn : 64 ≤ n.toNat) : s.RefsTo (s.applyCount r n) := by
  unfold State.applyCount
  split
  · next x hx =>
    refine refWritten hx (.calibrated n hn s.clock) ?_ ?_
    · simp [apply_ite State.refs, State.joinRef]
    · simp [apply_ite State.points, State.joinRef]
  · exact same rfl rfl

theorem applyRefFault (s : State) (r : RefId) (f : RefFault) : s.RefsTo (s.applyRefFault r f) := by
  unfold State.applyRefFault
  split
  · next x hx =>
    refine refWritten hx (.failed f s.clock) ?_ ?_
    · simp [apply_ite State.refs, State.joinRef]
    · simp [apply_ite State.points, State.joinRef]
  · exact same rfl rfl

theorem returnRef (hprior : ∀ x, s.refs[r] = some x → x.state = .calibrating ∨ x.prior = none) (due : Clock) :
    s.RefsTo (s.returnRef r due) := by
  unfold State.returnRef
  split
  · next x hx =>
    refine refWritten hx (.restored (hprior x hx)) ?_ ?_
    · simp [apply_ite State.refs]
    · simp [apply_ite State.points]
  · exact same rfl rfl

/-! ### The events of the converter and the due queue -/

theorem deliverPoint {j : Job} {outcome : Slot → State → State} (hj : s.converter.state.job = some j)
    (ho : ∀ p, s.scheduled p → s.endPhase.RefsTo (outcome p s.endPhase)) : s.RefsTo (s.endPhase.deliverPoint j outcome) := by
  unfold State.deliverPoint
  split
  · next p hp => exact from_same (ho p (.inr (by simp [State.isCurrent, hj, hp]))) rfl rfl
  · exact same rfl rfl

theorem deliverRef {j : Job} {outcome : RefId → State → State} (ho : ∀ r, s.endPhase.RefsTo (outcome r s.endPhase)) :
    s.RefsTo (s.endPhase.deliverRef j outcome) := by
  unfold State.deliverRef
  split
  · exact from_same (ho _) rfl rfl
  · exact same rfl rfl

/-- A job in its phase that ends in a fault is that of a LIVE point (R96). -/
theorem faultDelivered (h : s.ScheduleSound) (hp : s.scheduled p) (start : Clock) (g : Quality) :
    s.endPhase.RefsTo (s.endPhase.evaluateFault p start g) :=
  evaluateFault (s := s.endPhase) (fun _ hq => live_of_scheduled h hp hq) start g

theorem sensorOverflow (h : s.ScheduleSound) (frequency : Nat) : s.RefsTo (s.sensorOverflow frequency) := by
  unfold State.sensorOverflow
  split
  · next j hj =>
    split
    · exact deliverPoint (by rw [hj]; rfl) fun p hp => faultDelivered h hp _ .short
    · exact same rfl rfl
  · exact same rfl rfl

theorem windowEnd (h : s.ScheduleSound) (frequency : Nat) : s.RefsTo (s.windowEnd frequency) := by
  unfold State.windowEnd
  split
  · next j hj =>
    dsimp only
    split
    · exact same rfl rfl
    · refine deliverPoint (by rw [hj]; rfl) fun p hp => ?_
      split
      · exact faultDelivered h hp _ .open
      · exact evaluateMeasurement s.endPhase p _ _ _
  · exact same rfl rfl

/-- A count that completes in time and is no short is held by the record as it is (R76, R77). -/
theorem le_toNat_count {j : Job} {frequency : Nat} (hfit : countsInTime j frequency = true)
    (hmin : 64 ≤ countedTime j.excitation j.span.toNat frequency) :
    64 ≤ (BitVec.ofNat 22 (countedTime j.excitation j.span.toNat frequency)).toNat := by
  unfold countsInTime at hfit
  rw [Bool.and_eq_true, decide_eq_true_iff, decide_eq_true_iff] at hfit
  obtain ⟨-, hmax⟩ := hfit
  rw [BitVec.toNat_ofNat, Nat.mod_eq_of_lt (Nat.lt_of_le_of_lt hmax (by decide))]
  exact hmin

theorem countComplete (s : State) (frequency : Nat) : s.RefsTo (s.countComplete frequency) := by
  unfold State.countComplete
  split
  · split
    · next hfit =>
      refine deliverRef fun r => ?_
      split
      · next hmin => exact applyCount s.endPhase r (le_toNat_count hfit hmin)
      · exact applyRefFault s.endPhase r .refShort
    · exact same rfl rfl
  · exact same rfl rfl

theorem timeBaseLimit (s : State) (frequency : Nat) : s.RefsTo (s.timeBaseLimit frequency) := by
  unfold State.timeBaseLimit
  split
  · split
    · exact same rfl rfl
    · exact deliverRef fun r => applyRefFault s.endPhase r .refOpen
  · exact same rfl rfl

/-- Only a CALIBRATING reference has a prior state (R47). -/
theorem calibrating_or_prior_none (h : s.ScheduleSound) {x : RefRecord} (hx : s.refs[r] = some x) :
    x.state = .calibrating ∨ x.prior = none := by
  obtain ⟨-, -, -, -, -, -, hprior, -⟩ := h
  obtain ⟨he, -⟩ := hprior r x hx
  cases hp : x.prior with
  | none => exact .inr rfl
  | some y => exact .inl (by simpa [hp] using he)

/-- No reference is CALIBRATING while the converter is IDLE (R48). -/
theorem not_calibrating_of_idle (h : s.ScheduleSound) (hi : s.converter.state = .idle) {x : RefRecord}
    (hx : s.refs[r] = some x) : x.state ≠ .calibrating := by
  obtain ⟨-, -, -, -, -, hcurrent, -⟩ := h
  have hr := hcurrent r
  rw [hx] at hr
  simpa [State.isCurrent, ConverterState.job, hi] using hr.symm

theorem latchSupply (h : s.ScheduleSound) (vdda : Nat) : s.RefsTo (s.latchSupply vdda) := by
  unfold State.latchSupply
  split
  · split
    · unfold State.enterPhase
      split <;> exact same rfl rfl
    · unfold State.returnUnrun
      dsimp only
      split
      · exact returnRef (s := s.setConverter { s.converter with state := .hold })
          (fun _ hx => calibrating_or_prior_none h hx) _
      · exact same rfl rfl
  · exact same rfl rfl

theorem handRef {x : RefRecord} (hx : s.refs[r] = some x) (hc : x.state ≠ .calibrating) (due : Clock) :
    s.RefsTo (s.handRef r x due) :=
  refWritten hx (.started hc) rfl rfl

theorem dispatchHead (h : s.ScheduleSound) (hi : s.converter.state = .idle) {e : QueueEntry} {rest : List QueueEntry}
    (hq : s.queue = e :: rest) : s.RefsTo (s.dispatchHead e) := by
  unfold State.dispatchHead
  split
  · split
    · next x hx => exact handRef hx (not_calibrating_of_idle h hi hx) _
    · exact same rfl rfl
  · next p he =>
    split
    · split
      · next x hx =>
        split
        · exact same rfl rfl
        · exact handRef hx (not_calibrating_of_idle h hi hx) _
        · exact evaluateFault (s := s.removeEntry (.point p))
            (fun _ hr => live_of_scheduled h (scheduled_head hq he) hr) _ .refFault
        · exact same rfl rfl
      · exact same rfl rfl
    · exact same rfl rfl

theorem dispatched (h : s.ScheduleSound) : s.RefsTo s.dispatched := by
  unfold State.dispatched
  split
  · next hi hq =>
    split
    · exact dispatchHead h hi hq
    · exact same rfl rfl
  · exact same rfl rfl

theorem endHold (s : State) : s.RefsTo s.endHold := by
  unfold State.endHold
  split <;> exact same rfl rfl

/-! ### The events of the other units touch neither table -/

theorem atBoundary (s : State) (c : ChannelId) : s.RefsTo (s.atBoundary c) := by
  unfold State.atBoundary
  split <;> exact same rfl rfl

theorem atDuty (s : State) (c : ChannelId) : s.RefsTo (s.atDuty c) := by
  unfold State.atDuty
  split <;> exact same rfl rfl

theorem dimEnded (s : State) (c : Column) : s.RefsTo (s.dimEnded c) := by
  unfold State.dimEnded
  split <;> exact same rfl rfl

theorem blanked (s : State) : s.RefsTo s.blanked := by
  unfold State.blanked
  split <;> exact same rfl rfl

theorem echoed (s : State) (data : Byte) (mark stop : Bool) : s.RefsTo (s.echoed data mark stop) := by
  unfold State.echoed
  split
  · exact same rfl rfl
  · split
    · split <;> exact same rfl rfl
    · exact same rfl rfl

/-! ### Every row -/

theorem complete {code : Byte} {command : Byte → List Byte → State → Answer} (he : complete code command s = .next t)
    (hc : ∀ source payload, (command source payload s).Leaves s.RefsTo) : s.RefsTo t :=
  complete_keeps he (same rfl rfl) (fun _ _ hu => hu) fun f _ => hc f.source f.payload

theorem running {u : State} (he : running s u = .next t) (hu : s.RefsTo u) : s.RefsTo t :=
  running_keeps he (same rfl rfl) hu

theorem unknownCommand (he : execUnknownCommand s = .next t) : s.RefsTo t := by
  unfold execUnknownCommand at he
  split at he
  · split at he <;> exact Host.Outcome.next.inj he ▸ same rfl rfl
  · exact Host.Outcome.next.inj he ▸ same rfl rfl

theorem resetRelease {addr : BitVec 3} {rate : BitVec 2} (he : execResetRelease addr rate s = .next t) : s.RefsTo t := by
  unfold execResetRelease at he
  split at he
  · exact Host.Outcome.next.inj he ▸ cleared rfl rfl
  · exact Host.Outcome.next.inj he ▸ same rfl rfl

/-- Every row changes the reference table and the bindings in one of the ways of `RefsChange`. -/
theorem of_exec {c : Instr} (h : s.ScheduleSound) (he : exec c s = .next t) : s.RefsTo t := by
  have hsame : s.RefsTo s := .same rfl rfl
  cases c with
  | definePoint =>
    exact complete he fun _ _ => definePoint_leaves fun _ _ _ hv hx _ _ _ _ =>
      leaves_bindingTest (fillSlot hv hx)
  | amendPoint =>
    exact complete he fun _ _ => amendPoint_leaves fun _ _ _ _ hr hl _ _ _ hs =>
      leaves_bindingTest (amendSlot hr hl hs)
  | startPoint => exact complete he fun _ _ => startPoint_leaves fun _ _ hr hl => start hr hl
  | stopPoint =>
    exact complete he fun _ _ => stopPoint_leaves (fun _ _ hr hl => stopLive hr hl)
      fun _ _ hr hh => rewritten hr rfl (by simp [PointRecord.bound, hh]) rfl
  | retirePoint => exact complete he fun _ _ => retirePoint_leaves fun _ _ hr => retire hr
  | readPoint => exact complete he fun _ _ => readPoint_leaves hsame
  | findTag => exact complete he fun _ _ => findTag_leaves hsame
  | listPoints => exact complete he fun _ _ => listPoints_leaves hsame
  | offerPoint =>
    exact complete he fun _ _ => offerPoint_leaves fun _ _ _ hr _ _ _ => rewritten hr rfl rfl rfl
  | withdrawOffer =>
    exact complete he fun _ _ => withdrawOffer_leaves fun _ _ hr => rewritten hr rfl rfl rfl
  | takePoint =>
    exact complete he fun _ _ => takePoint_leaves fun _ _ hr _ _ => moveOwner hr _
  | assignOwner =>
    exact complete he fun _ _ => assignOwner_leaves fun _ _ _ hr _ _ _ => moveOwner hr _
  | defineRef =>
    exact complete he fun _ _ => defineRef_leaves fun r _ _ _ _ hv hf =>
      RefsChange.defined r _ _ _ _ _ hv hf rfl (bound_congr rfl)
  | amendRef =>
    exact complete he fun _ _ => amendRef_leaves fun _ _ _ _ _ _ _ hx _ hf _ _ =>
      refWritten hx (.amended _ _ _ _ _ hf) rfl rfl
  | calibrateRef =>
    exact complete he fun _ _ => calibrateRef_leaves fun _ _ hx _ => callCalibration hx
  | readRef => exact complete he fun _ _ => readRef_leaves hsame
  | retireRef => exact complete he fun _ _ => retireRef_leaves fun _ _ hx hu => emptyRef hx hu
  | measureNow => exact complete he fun _ _ => measureNow_leaves fun _ => hsame
  | measureOwned => exact complete he fun _ _ => measureOwned_leaves fun _ => hsame
  | configureDrive => exact complete he fun _ _ => configureDrive_leaves fun _ _ _ _ _ _ => hsame
  | setDriveLevels => exact complete he fun _ _ => setDriveLevels_leaves fun _ _ => hsame
  | setDrivePeriod => exact complete he fun _ _ => setDrivePeriod_leaves fun _ _ _ => hsame
  | setManualDuty => exact complete he fun _ _ => setManualDuty_leaves fun _ _ => hsame
  | enableDrive => exact complete he fun _ _ => enableDrive_leaves fun _ _ => hsame
  | disableDrive => exact complete he fun _ _ => disableDrive_leaves fun _ => hsame
  | releaseDrive => exact complete he fun _ _ => releaseDrive_leaves fun _ _ _ => hsame
  | readDrive => exact complete he fun _ _ => readDrive_leaves hsame
  | locatePoint =>
    exact complete he fun _ _ => locatePoint_leaves fun _ _ _ hr => rewritten hr rfl rfl rfl
  | readNotices =>
    exact complete he fun _ _ => readNotices_leaves (same (noticesRead_points ..) (by unfold State.noticesRead; rfl))
  | readStatus => exact complete he fun _ _ => readStatus_leaves hsame
  | clearCauses => exact complete he fun _ _ => clearCauses_leaves hsame
  | setDevice => exact complete he fun _ _ => setDevice_leaves fun _ => hsame
  | clearTables => exact complete he fun _ _ => clearTables_leaves (cleared rfl rfl)
  | unknownCommand => exact unknownCommand he
  | hardwareReset => exact Host.Outcome.next.inj he ▸ cleared rfl rfl
  | resetRelease addr rate => exact resetRelease he
  | scheduleClockStep => exact running he hsame
  | fallingDue => exact running he hsame
  | offerExpiry slot => exact running he (expireOffer s slot)
  | locateExpiry slot => exact running he (expireLocate s slot)
  | freshnessDeadlineExpiry slot => exact running he (expireDeadline s slot)
  | dispatch => exact running he (dispatched h)
  | supplyCheckLatch vdda => exact running he (latchSupply h vdda)
  | holdExpiry => exact running he (endHold s)
  | referenceCountComplete frequency => exact running he (countComplete s frequency)
  | referenceTimeBaseLimit frequency => exact running he (timeBaseLimit s frequency)
  | sensorCountOverflow frequency => exact running he (sensorOverflow h frequency)
  | sensorWindowEnd frequency => exact running he (windowEnd h frequency)
  | periodBoundary channel => exact running he (atBoundary s channel)
  | rowSlotStart => exact running he hsame
  | cellOnTimeEnd column => exact running he (dimEnded s column)
  | blankingGap => exact running he (blanked s)
  | addressCharacter value => exact running he hsame
  | dataCharacter value => exact running he hsame
  | stopBitError data mark => exact running he hsame
  | idleGap => exact running he hsame
  | lineBreak => exact running he hsame
  | lineRise => exact running he hsame
  | turnaroundEnd => exact running he hsame
  | characterEcho data mark stop => exact running he (echoed s data mark stop)
  | driveDutyCount channel => exact running he (atDuty s channel)

end State.RefsTo

/-! ### The counts are the numbers of the points that they count (R50) -/

/-- The counts of the reference table against the bindings, and every binding to a defined reference. -/
def CountsFit (refs : RefTable) (bound : Bindings) : Prop :=
  (∀ r : RefId, ∀ x ∈ refs[r], x.users = ∑ p, usersIn (bound p) r ∧ x.liveUsers = ∑ p, liveUsersIn (bound p) r) ∧
  (∀ p : Slot, ∀ b ∈ bound p, (refs[b.1]).isSome = true)

theorem length_filter_eq_sum {n : Nat} (f : Fin n → Bool) : ((List.finRange n).filter f).length = ∑ p, (f p).toNat := by
  rw [Fin.sum_univ_def]
  induction List.finRange n with
  | nil => rfl
  | cons a l ih => cases h : f a <;> simp [h, ih, Nat.add_comm]

theorem usersOf_eq_sum (s : State) (r : RefId) : s.usersOf r = ∑ p, usersIn (s.bound p) r := by
  rw [State.usersOf, State.countPoints, length_filter_eq_sum]
  refine Finset.sum_congr rfl fun p _ => ?_
  rw [State.bound]
  cases s.points[p] with
  | none => rfl
  | some q =>
    by_cases h : r = q.reference
    · simp [usersIn, PointRecord.bound, h]
    · simp [usersIn, PointRecord.bound, h, beq_eq_false_iff_ne.mpr (Ne.symm h)]

theorem liveUsersOf_eq_sum (s : State) (r : RefId) : s.liveUsersOf r = ∑ p, liveUsersIn (s.bound p) r := by
  rw [State.liveUsersOf, State.countPoints, length_filter_eq_sum]
  refine Finset.sum_congr rfl fun p _ => ?_
  rw [State.bound]
  cases s.points[p] with
  | none => rfl
  | some q =>
    by_cases h : r = q.reference
    · cases hl : q.state == .live <;> simp [liveUsersIn, PointRecord.bound, h, hl]
    · simp [liveUsersIn, PointRecord.bound, h, beq_eq_false_iff_ne.mpr (Ne.symm h)]

theorem countsAgree_iff (s : State) : s.CountsAgree ↔ CountsFit s.refs s.bound := by
  simp only [State.CountsAgree, CountsFit, usersOf_eq_sum, liveUsersOf_eq_sum]
  refine and_congr_right' (forall_congr' fun p => ?_)
  rw [State.bound]
  cases s.points[p] <;> simp [PointRecord.bound]

/-- When one slot of a table changes, a sum over it changes by what that slot adds. -/
theorem sum_update_add {α : Type} (g : α → Nat) (f : Slot → α) (p : Slot) (new : α) :
    ∑ q, g (Function.update f p new q) + g (f p) = ∑ q, g (f q) + g new := by
  have hrest : ∑ q ∈ Finset.univ.erase p, g (Function.update f p new q) = ∑ q ∈ Finset.univ.erase p, g (f q) :=
    Finset.sum_congr rfl fun q hq => by rw [Function.update_of_ne (Finset.ne_of_mem_erase hq)]
  rw [← Finset.sum_erase_add _ _ (Finset.mem_univ p), hrest, Function.update_self,
    ← Finset.sum_erase_add Finset.univ (fun q => g (f q)) (Finset.mem_univ p)]
  omega

theorem RefChange.counts {x y : RefRecord} (h : RefChange x y) : y.users = x.users ∧ y.liveUsers = x.liveUsers := by
  cases h with
  | amended mask isOpen excitation span recal h =>
    rw [amendedRef_eq]
    exact ⟨rfl, rfl⟩
  | _ => exact ⟨rfl, rfl⟩

namespace CountsFit

variable {refs : RefTable} {bound : Bindings} {r : RefId}

/-- No slot is bound to a reference that is EMPTY or has no users. -/
theorem unused (h : CountsFit refs bound) (hx : ∀ x ∈ refs[r], x.users = 0) (p : Slot) : usersIn (bound p) r = 0 := by
  obtain ⟨hcounts, hdefined⟩ := h
  cases hr : refs[r] with
  | none =>
    cases hb : bound p with
    | none => rfl
    | some b =>
      refine if_neg fun e => ?_
      have := hdefined p b hb
      simp [← e, hr] at this
  | some x =>
    obtain ⟨husers, -⟩ := hcounts r x hr
    rw [hx x hr] at husers
    exact (Finset.sum_eq_zero_iff.mp husers.symm) p (Finset.mem_univ p)

/-- A record is written with the counts that it had. -/
theorem written {x y : RefRecord} (h : CountsFit refs bound) (hx : refs[r] = some x) (hy : RefChange x y) :
    CountsFit (refs.set r (some y)) bound := by
  obtain ⟨hcounts, hdefined⟩ := h
  constructor
  · intro k z hz
    rw [getElem_setFin] at hz
    split at hz
    · next hk =>
      obtain rfl : y = z := Option.some.inj hz
      obtain ⟨husers, hlive⟩ := hy.counts
      rw [hk, husers, hlive]
      exact hcounts r x hx
    · exact hcounts k z hz
  · intro p b hb
    rw [getElem_setFin]
    split
    · rfl
    · exact hdefined p b hb

/-- A record without users is put in the place of an EMPTY one. -/
theorem defined {x : RefRecord} (h : CountsFit refs bound) (hv : refs[r] = none) (hu : x.users = 0) (hl : x.liveUsers = 0) :
    CountsFit (refs.set r (some x)) bound := by
  have hnone := h.unused (r := r) (by simp [hv])
  obtain ⟨hcounts, hdefined⟩ := h
  constructor
  · intro k z hz
    rw [getElem_setFin] at hz
    split at hz
    · next hk =>
      obtain rfl : x = z := Option.some.inj hz
      have hlive : ∀ p, liveUsersIn (bound p) r = 0 := fun p => Nat.le_zero.mp (hnone p ▸ liveUsersIn_le (bound p) r)
      rw [hk, hu, hl]
      simp only [hnone, hlive, Finset.sum_const_zero, and_self]
    · exact hcounts k z hz
  · intro p b hb
    rw [getElem_setFin]
    split
    · rfl
    · exact hdefined p b hb

/-- A record without users becomes EMPTY. -/
theorem emptied {x : RefRecord} (h : CountsFit refs bound) (hx : refs[r] = some x) (hu : x.users = 0) :
    CountsFit (refs.set r none) bound := by
  have hnone := h.unused (r := r) (by simp [hx, hu])
  obtain ⟨hcounts, hdefined⟩ := h
  constructor
  · intro k z hz
    rw [getElem_setFin] at hz
    split at hz
    · cases hz
    · exact hcounts k z hz
  · intro p b hb
    rw [getElem_setFin, if_neg]
    · exact hdefined p b hb
    · intro e
      have := hnone p
      simp [Option.mem_def.mp hb, usersIn, e] at this

/-- The counts follow the slot that moves. -/
theorem moved {refs' : RefTable} {p : Slot} {new : Option (RefId × Bool)} (h : CountsFit refs bound)
    (hd : ∀ b ∈ new, (∃ a ∈ bound p, a.1 = b.1) ∨ (refs[b.1]).isSome = true)
    (hr : ∀ k : RefId, refs'[k] = (refs[k]).map fun x => x.recounted k (bound p) new) :
    CountsFit refs' (Function.update bound p new) := by
  obtain ⟨hcounts, hdefined⟩ := h
  constructor
  · intro k z hz
    rw [hr k] at hz
    obtain ⟨x, hx, rfl⟩ := Option.map_eq_some_iff.mp hz
    obtain ⟨husers, hlive⟩ := hcounts k x hx
    have hmoved := sum_update_add (fun b => usersIn b k) bound p new
    have hmovedLive := sum_update_add (fun b => liveUsersIn b k) bound p new
    simp only [RefRecord.recounted]
    omega
  · intro q b hb
    rw [hr b.1, Option.isSome_map]
    rw [Function.update_apply] at hb
    split at hb
    · rcases hd b hb with ⟨a, ha, he⟩ | hsome
      · exact he ▸ hdefined p a ha
      · exact hsome
    · exact hdefined q b hb

end CountsFit

theorem RefsChange.countsFit {refs refs' : RefTable} {bound bound' : Bindings}
    (h : RefsChange refs bound refs' bound') (hc : CountsFit refs bound) : CountsFit refs' bound' := by
  cases h with
  | kept hr hb => rwa [hr, hb]
  | written r x y hx hy hr hb =>
    rw [hr, hb]
    exact hc.written hx hy
  | defined r source isOpen excitation span recal hv hf hr hb =>
    rw [hr, hb]
    exact hc.defined hv rfl rfl
  | emptied r x hx hu hr hb =>
    rw [hr, hb]
    exact hc.emptied hx hu
  | moved p new hd hr hb =>
    rw [hb]
    exact hc.moved hd hr
  | cleared hr hb => simp [CountsFit, hr, hb]

/-- Settles O7: a row that writes a reference record keeps its counts, and a row that moves a slot moves the counts with it. -/
theorem countsAgreeAfterEveryStep : Obligations.CountsAgreeAfterEveryStep := by
  intro s t hsched hs h
  rcases step_next h with rfl | ⟨c, rest, -, h⟩
  · exact hs
  · have hchange := State.RefsTo.of_exec (s := { s with pending := rest }) hsched h
    exact (countsAgree_iff t).mpr (hchange.countsFit ((countsAgree_iff s).mp hs))

/-! ### Every reference record stays sound (R47, R48) -/

/-- The state whose count a reference holds: while CALIBRATING it is the prior one (R48). -/
def RefRecord.settled (x : RefRecord) : RefState :=
  if x.state = .calibrating then x.prior.getD .calibrating else x.state

/-- What a reference holds that has settled in a state. -/
def RefRecord.holdsFor (x : RefRecord) : RefState → Prop
  | .valid => x.count.isSome = true ∧ x.calTime.isSome = true
  | .faulted => x.count = none ∧ x.lastFault.isSome = true
  | .uncal => x.count = none
  | .calibrating => x.count = none

/-- The soundness of a reference record, clause by clause. -/
structure RefRecord.Sound (x : RefRecord) : Prop where
  holds : x.holdsFor x.settled
  faultTime : x.lastFault.isSome = x.faultTime.isSome
  span : 256 ≤ x.span.toNat
  recal : x.recal ≠ 0
  usedRecal : x.usedRecal ≠ 0
  count : ∀ n ∈ x.count, 64 ≤ n.toNat

theorem refSound_iff (x : RefRecord) : x.sound = true ↔ x.Sound := by
  have hclauses : x.Sound ↔ x.holdsFor x.settled ∧ x.lastFault.isSome = x.faultTime.isSome ∧ 256 ≤ x.span.toNat ∧
      x.recal ≠ 0 ∧ x.usedRecal ≠ 0 ∧ ∀ n ∈ x.count, 64 ≤ n.toNat :=
    ⟨fun h => ⟨h.holds, h.faultTime, h.span, h.recal, h.usedRecal, h.count⟩,
      fun ⟨h1, h2, h3, h4, h5, h6⟩ => ⟨h1, h2, h3, h4, h5, h6⟩⟩
  have hcount : x.count.all (fun n => decide (64 ≤ n.toNat)) = true ↔ ∀ n ∈ x.count, 64 ≤ n.toNat := by
    cases x.count <;> simp
  simp only [hclauses, RefRecord.sound, RefRecord.settled, Bool.and_eq_true, decide_eq_true_eq, bne_iff_ne, hcount, and_assoc]
  cases hs : x.state with
  | valid => simp [RefRecord.holdsFor, and_assoc]
  | uncal => simp [RefRecord.holdsFor]
  | faulted => simp [RefRecord.holdsFor, and_assoc]
  | calibrating =>
    cases hp : x.prior with
    | none => simp [RefRecord.holdsFor]
    | some y => cases y <;> simp [RefRecord.holdsFor, and_assoc, beq_eq_decide]

namespace RefRecord.Sound

variable {x : RefRecord}

/-- The counts, the owner, the open flag and the request are free. -/
theorem recounted (h : x.Sound) (r : RefId) (old new : Option (RefId × Bool)) : (x.recounted r old new).Sound := { h with }

theorem requested (h : x.Sound) : { x with request := true }.Sound := { h with }

theorem started (h : x.Sound) (hc : x.state ≠ .calibrating) : (startedRef x).Sound :=
  { h with
    holds := by
      have hx := h.holds
      rwa [settled, if_neg hc] at hx }

theorem restored (h : x.Sound) (hp : x.state = .calibrating ∨ x.prior = none) : (restoredRef x).Sound :=
  { h with
    holds := by
      have hsettled : (restoredRef x).settled = x.settled := by
        by_cases hc : x.state = .calibrating
        · cases hp : x.prior with
          | none => simp [restoredRef, settled, hc, hp]
          | some y => simp [restoredRef, settled, hc, hp, eq_comm]
        · simp [restoredRef, settled, hc, hp.resolve_left hc]
      rw [hsettled]
      exact h.holds }

theorem calibrated (h : x.Sound) {n : BitVec 22} (hn : 64 ≤ n.toNat) (now : Clock) : (calibratedRef x n now).Sound where
  holds := ⟨rfl, rfl⟩
  faultTime := rfl
  span := h.span
  recal := h.recal
  usedRecal := h.recal
  count := by rintro m ⟨⟩; exact hn

theorem failed (h : x.Sound) (f : RefFault) (now : Clock) : (failedRef x f now).Sound where
  holds := ⟨rfl, rfl⟩
  faultTime := rfl
  span := h.span
  recal := h.recal
  usedRecal := h.usedRecal
  count := nofun

theorem defined {source isOpen excitation : Byte} {span recal : Half}
    (h : refFieldsInRange (fun _ => true) isOpen excitation span recal = true) :
    (definedRef source isOpen excitation span recal).Sound := by
  obtain ⟨-, -, hspan, hrecal⟩ := (refFieldsInRange_iff ..).mp h
  exact ⟨rfl, rfl, hspan rfl, hrecal rfl, hrecal rfl, nofun⟩

/-- A changed span or excitation takes the count of a VALID or FAULTED reference away, and makes it UNCAL (R55). -/
theorem amended {mask isOpen excitation : Byte} {span recal : Half} (h : x.Sound)
    (hf : refFieldsInRange mask.getLsbD isOpen excitation span recal = true) :
    (amendedRef mask isOpen excitation span recal x).Sound := by
  obtain ⟨-, -, hspan, hrecal⟩ := (refFieldsInRange_iff ..).mp hf
  have hspan' := present_keeps (P := fun n : Half => 256 ≤ n.toNat) hspan h.span
  have hrecal' := present_keeps (P := fun n : Half => n ≠ 0) hrecal h.recal
  refine iteInduction (motive := RefRecord.Sound) (fun _ => ?_) fun _ => ?_
  · exact ⟨rfl, h.faultTime, hspan', hrecal', h.usedRecal, nofun⟩
  · exact ⟨h.holds, h.faultTime, hspan', hrecal', h.usedRecal, h.count⟩

end RefRecord.Sound

theorem RefChange.sound {x y : RefRecord} (hy : RefChange x y) (h : x.Sound) : y.Sound := by
  cases hy with
  | started hc => exact h.started hc
  | calibrated n hn now => exact h.calibrated hn now
  | failed f now => exact h.failed f now
  | restored hp => exact h.restored hp
  | requested => exact h.requested
  | amended mask isOpen excitation span recal hf => exact h.amended hf

/-- A table stays sound when a sound record, or none, is written to one of its places. -/
theorem refsSound_set {refs : RefTable} {r : RefId} {n : Option RefRecord}
    (h : ∀ k : RefId, ∀ x ∈ refs[k], x.Sound) (hn : ∀ x ∈ n, x.Sound) : ∀ k : RefId, ∀ x ∈ (refs.set r n)[k], x.Sound := by
  intro k x hx
  rw [getElem_setFin] at hx
  split at hx
  · exact hn x hx
  · exact h k x hx

theorem RefsChange.refsSound {refs refs' : RefTable} {bound bound' : Bindings}
    (h : RefsChange refs bound refs' bound') (hs : ∀ k : RefId, ∀ x ∈ refs[k], x.Sound) :
    ∀ k : RefId, ∀ x ∈ refs'[k], x.Sound := by
  cases h with
  | kept hr hb => rwa [hr]
  | written r x y hx hy hr hb =>
    rw [hr]
    exact refsSound_set hs (by simpa using hy.sound (hs r x hx))
  | defined r source isOpen excitation span recal hv hf hr hb =>
    rw [hr]
    exact refsSound_set hs (by simpa using RefRecord.Sound.defined hf)
  | emptied r x hx hu hr hb =>
    rw [hr]
    exact refsSound_set hs (by simp)
  | moved p new hd hr hb =>
    intro k z hz
    rw [hr k] at hz
    obtain ⟨x, hx, rfl⟩ := Option.map_eq_some_iff.mp hz
    exact (hs k x hx).recounted k _ _
  | cleared hr hb => simp [hr]

/-- Settles O12: each way in which a row writes a reference record leads from a sound record to a sound record. -/
theorem refsSoundAfterEveryStep : Obligations.RefsSoundAfterEveryStep := by
  intro s t hsched hs h
  rcases step_next h with rfl | ⟨c, rest, -, h⟩
  · exact hs
  · have hchange := State.RefsTo.of_exec (s := { s with pending := rest }) hsched h
    have hsound := hchange.refsSound fun k x hx => (refSound_iff x).mp (hs k x hx)
    exact fun k x hx => (refSound_iff x).mpr (hsound k x hx)

end Sys2Proof.Machine

/-! SUPPORT. The rows of the ratio converter: what each outcome of a reference makes of the part, what each row does in the state in
which it acts, and the three statements about the supply check and the two phases (chapter 4). -/

namespace Sys2Proof.Machine

/-! ### The outcomes of a reference as one update of the part -/

section
variable {s : State} {r : RefId} {x : RefRecord}

/-- A count: the record, the notice after a fault, the next calibration for live users (R58). -/
theorem applyCount_some (hx : s.refs[r] = some x) (t : BitVec 22) : s.applyCount r t = { s with
    refs := s.refs.set r (some (calibratedRef x t s.clock))
    noticeRefs := if x.prior = some .faulted then s.noticeRefs.set r true else s.noticeRefs
    queue := if 0 < x.liveUsers then insertInto s.queue (.ref r) (s.clock + secondsMs (x.recal.setWidth 32)) s.clock
      else s.queue } := by
  simp only [State.applyCount, hx]
  by_cases hp : x.prior = some .faulted <;> by_cases hl : 0 < x.liveUsers <;> simp [hp, hl] <;> rfl

/-- A fault: the record, the notice, the retry for live users (R59). -/
theorem applyRefFault_some (hx : s.refs[r] = some x) (f : RefFault) : s.applyRefFault r f = { s with
    refs := s.refs.set r (some (failedRef x f s.clock))
    noticeRefs := s.noticeRefs.set r true
    queue := if 0 < x.liveUsers then insertInto s.queue (.ref r) (s.clock + 1000) s.clock else s.queue } := by
  simp only [State.applyRefFault, hx]
  by_cases hl : 0 < x.liveUsers <;> simp [hl] <;> rfl

/-- A job returned unrun: the prior state, and the entry for live users or a request (R60). -/
theorem returnRef_some (hx : s.refs[r] = some x) (due : Clock) : s.returnRef r due = { s with
    refs := s.refs.set r (some (restoredRef x))
    queue := if 0 < x.liveUsers ∨ x.request = true then returnInto s.queue (.ref r) due else s.queue } := by
  simp only [State.returnRef, hx]
  by_cases hl : 0 < x.liveUsers ∨ x.request = true <;> simp [hl] <;> rfl

end

/-! ### The supply check and the hold (R68 to R71) -/

section
variable {s : State} {j : Job} {vdda : Nat}

theorem latchSupply_passes (hs : s.converter.state = .supplyCheck j) (hv : 2600 + 100 * s.settings.floor.toNat ≤ vdda) :
    s.latchSupply vdda = s.enterPhase j := by
  simp only [State.latchSupply, hs]
  exact if_pos hv

theorem latchSupply_fails (hs : s.converter.state = .supplyCheck j) (hv : vdda < 2600 + 100 * s.settings.floor.toNat) :
    s.latchSupply vdda = s.returnUnrun j := by
  simp only [State.latchSupply, hs]
  exact if_neg (Nat.not_le.mpr hv)

theorem enterPhase_ref {r : RefId} (hj : j.record = .ref r) : s.enterPhase j = { s with
    converter := { state := .referencePhase j, measurement := 0 - j.span.setWidth 18, timeBase := 0 } } := by
  simp only [State.enterPhase, hj]
  rfl

theorem enterPhase_point {p : Slot} {t : BitVec 22} (hj : j.record = .point p) (ht : j.count = some t) :
    s.enterPhase j = { s with converter := { state := .sensorPhase j, measurement := 0, timeBase := 0 - t } } := by
  simp only [State.enterPhase, hj, ht]
  rfl

theorem returnUnrun_ref {r : RefId} {x : RefRecord} {prior : RefState} (hj : j.record = .ref r) (hx : s.refs[r] = some x)
    (hp : x.prior = some prior) : s.returnUnrun j = { s with
      converter := { s.converter with state := .hold }
      refs := s.refs.set r (some { x with state := prior, prior := none })
      queue := if 0 < x.liveUsers ∨ x.request = true then returnInto s.queue (.ref r) j.due else s.queue
      causes := { s.causes with supplyLow := true } } := by
  have hreturned := returnRef_some (s := s.setConverter { s.converter with state := .hold }) hx j.due
  simp only [State.returnUnrun, hj, hreturned, restoredRef, hp, Option.getD_some]
  rfl

theorem returnUnrun_point {p : Slot} (hj : j.record = .point p) : s.returnUnrun j = { s with
    converter := { s.converter with state := .hold }
    queue := returnInto s.queue (.point p) j.due
    causes := { s.causes with supplyLow := true } } := by
  simp only [State.returnUnrun, hj]
  rfl

theorem endHold_hold (hs : s.converter.state = .hold) :
    s.endHold = { s with converter := { s.converter with state := .idle } } := by
  simp only [State.endHold, hs]
  rfl

end

/-- Settles O39: the two sides of the floor, each for both kinds of job. -/
theorem supplyCheckPassesOrReturnsTheJob : Obligations.SupplyCheckPassesOrReturnsTheJob := by
  constructor
  · intro s vdda j hreset hs
    have hrow : exec (.supplyCheckLatch vdda) s = .next (s.latchSupply vdda) := running_free hreset _
    constructor
    · intro hv
      rw [hrow, latchSupply_passes hs hv]
      exact ⟨fun r hj => congrArg _ (enterPhase_ref hj), fun p t hj ht => congrArg _ (enterPhase_point hj ht)⟩
    · intro hv
      rw [hrow, latchSupply_fails hs hv]
      exact ⟨fun r x prior hj hx hp => congrArg _ (returnUnrun_ref hj hx hp), fun p hj => congrArg _ (returnUnrun_point hj)⟩
  · intro s hreset hs
    exact (running_free hreset _).trans (congrArg _ (endHold_hold hs))

/-! ### The excitation of a phase -/

/-- In a phase the current runs forward in every cycle under DC, and in every first of two under ALTERNATING (R73). -/
theorem currentForward_of_excitation {c : Converter} {e : Excitation} (h : c.excitation = some e) (cycle : Nat) :
    c.currentForward cycle = some (decide (e = .dc ∨ cycle % 2 = 0)) := by
  rw [Converter.currentForward, h, Option.map_some, runsForward_eq]

/-! ### The end of a reference phase (R76 to R78) -/

section
variable {s : State} {j : Job} {r : RefId} {x : RefRecord} {frequency : Nat}

theorem countedTime_eq (e : Excitation) (n frequency : Nat) :
    countedTime e n frequency = (if e = .alternating then 2 else 1) * n * 4000000000000 / frequency := by
  rw [countedTime, cyclesPerCount_eq, timeBaseRate]

/-- An oscillator at the nominal 400 kHz takes 10 time base counts for a cycle (Table 4-3). -/
theorem countedTime_nominal (e : Excitation) (n : Nat) : countedTime e n 400000000000 = 10 * cyclesPerCount e * n := by
  unfold countedTime timeBaseRate
  rw [show cyclesPerCount e * n * 4000000000000 = 10 * cyclesPerCount e * n * 400000000000 by ring]
  exact Nat.mul_div_cancel _ (by decide)

theorem countComplete_late (hs : s.converter.state = .referencePhase j) (h : countsInTime j frequency = false) :
    s.countComplete frequency = s := by
  simp [State.countComplete, hs, h]

theorem timeBaseLimit_early (hs : s.converter.state = .referencePhase j) (h : countsInTime j frequency = true) :
    s.timeBaseLimit frequency = s := by
  simp [State.timeBaseLimit, hs, h]

/-- A count in time is applied to the reference of the job by an IDLE converter: the T of R76, or REF_SHORT. -/
theorem countComplete_ref (hs : s.converter.state = .referencePhase j) (hj : j.record = .ref r)
    (h : countsInTime j frequency = true) : s.countComplete frequency =
      if 64 ≤ countedTime j.excitation j.span.toNat frequency then
        s.endPhase.applyCount r (BitVec.ofNat 22 (countedTime j.excitation j.span.toNat frequency))
      else s.endPhase.applyRefFault r .refShort := by
  simp [State.countComplete, hs, h, State.deliverRef, hj]

theorem timeBaseLimit_ref (hs : s.converter.state = .referencePhase j) (hj : j.record = .ref r)
    (h : countsInTime j frequency = false) : s.timeBaseLimit frequency = s.endPhase.applyRefFault r .refOpen := by
  simp [State.timeBaseLimit, hs, h, State.deliverRef, hj]

end

/-- Settles O40: which end of the phase comes is read off `countsInTime_iff`, what it delivers off T. -/
theorem referencePhaseDeliversACountOrAFault : Obligations.ReferencePhaseDeliversACountOrAFault := by
  intro s j r x frequency hreset hs hj hx perCount t idle
  have ht : countedTime j.excitation j.span.toNat frequency = t := countedTime_eq ..
  have hfits : countsInTime j frequency = true ↔ 0 < frequency ∧ t ≤ 4194303 := by
    rw [countsInTime_iff, cyclesPerCount_eq]
  have hcomplete : exec (.referenceCountComplete frequency) s = .next (s.countComplete frequency) := running_free hreset _
  have hlimit : exec (.referenceTimeBaseLimit frequency) s = .next (s.timeBaseLimit frequency) := running_free hreset _
  have hexcitation : s.converter.excitation = some j.excitation := by simp only [Converter.excitation, hs]
  rw [hcomplete, hlimit]
  refine ⟨⟨?_, hexcitation, rfl, rfl, currentForward_of_excitation hexcitation⟩, ?_, ?_, ?_⟩
  · simp only [Converter.oscillator, hs]
  · rintro rfl
    rw [← ht, countedTime_nominal, cyclesPerCount_eq]
  · intro hf hmax
    have hin := hfits.mpr ⟨hf, hmax⟩
    rw [timeBaseLimit_early hs hin, countComplete_ref hs hj hin, ht]
    refine ⟨rfl, fun hmin => ?_, fun hshort => ?_⟩
    · rw [if_pos hmin]
      exact congrArg _ (applyCount_some (s := s.endPhase) hx _)
    · rw [if_neg (Nat.not_le.mpr hshort)]
      exact congrArg _ (applyRefFault_some (s := s.endPhase) hx _)
  · intro hout
    have hlate : countsInTime j frequency = false := by
      rw [Bool.eq_false_iff, ne_eq, hfits]
      omega
    rw [countComplete_late hs hlate, timeBaseLimit_ref hs hj hlate]
    exact ⟨rfl, congrArg _ (applyRefFault_some (s := s.endPhase) hx _)⟩

/-! ### The end of a sensor phase (R80 to R83) -/

/-- The quotient of R82 is above 65,535 exactly when M is at most a quarter of N. -/
theorem quotient_clamped_iff (n : Nat) {m : Nat} (hm : 0 < m) : 65535 < n * 16384 / m ↔ 4 * m ≤ n := by
  rw [← Nat.succ_le_iff, Nat.le_div_iff_mul_le hm]
  omega

section
variable {s : State} {j : Job} {p : Slot} {frequency : Nat}

theorem sensorOverflow_within (hs : s.converter.state = .sensorPhase j)
    (h : windowCount j.excitation j.window frequency ≤ 262143) : s.sensorOverflow frequency = s := by
  simp [State.sensorOverflow, hs, h]

theorem windowEnd_beyond (hs : s.converter.state = .sensorPhase j)
    (h : 262143 < windowCount j.excitation j.window frequency) : s.windowEnd frequency = s := by
  simp [State.windowEnd, hs, h]

theorem sensorOverflow_point (hs : s.converter.state = .sensorPhase j) (hj : j.record = .point p)
    (h : 262143 < windowCount j.excitation j.window frequency) :
    s.sensorOverflow frequency = s.endPhase.evaluateFault p j.start .short := by
  simp [State.sensorOverflow, hs, h, State.deliverPoint, hj]

/-- A window that ends within the counter hands the evaluator OPEN below 16 counts, and the value of R82 otherwise. -/
theorem windowEnd_point (hs : s.converter.state = .sensorPhase j) (hj : j.record = .point p)
    (h : windowCount j.excitation j.window frequency ≤ 262143) : s.windowEnd frequency =
      if windowCount j.excitation j.window frequency < 16 then s.endPhase.evaluateFault p j.start .open
      else
        let value := measuredValue j.span (windowCount j.excitation j.window frequency)
        s.endPhase.evaluateMeasurement p j.start value.1 value.2 := by
  simp [State.windowEnd, hs, Nat.not_lt.mpr h, State.deliverPoint, hj]

end

/-- Settles O41: which end of the phase comes, and with what, is read off M; the evaluator's two outcomes say the rest. -/
theorem sensorPhaseDeliversAMeasurementOrAFault : Obligations.SensorPhaseDeliversAMeasurementOrAFault := by
  intro s j p r x count frequency hreset hs hj hcount hp hx hown perCount m idle
  have hm : windowCount j.excitation j.window frequency = m := windowCount_eq hcount frequency
  have hend : exec (.sensorWindowEnd frequency) s = .next (s.windowEnd frequency) := running_free hreset _
  have hoverflow : exec (.sensorCountOverflow frequency) s = .next (s.sensorOverflow frequency) := running_free hreset _
  have hexcitation : s.converter.excitation = some j.excitation := by simp only [Converter.excitation, hs]
  have hfault : ∀ q, s.endPhase.evaluateFault p j.start q = State.afterFault { s with converter := idle } p r x j.start q :=
    fun q => evaluateFault_some (s := s.endPhase) hp hx hown j.start q
  rw [hend, hoverflow]
  refine ⟨⟨?_, hexcitation, currentForward_of_excitation hexcitation⟩, ?_, ?_⟩
  · simp only [Converter.oscillator, hs]
  · intro hmax
    rw [sensorOverflow_within hs (hm ▸ hmax), windowEnd_point hs hj (hm ▸ hmax), hm]
    refine ⟨rfl, fun hmin => ?_, fun hopen => ?_⟩
    · obtain ⟨hvalue, hquality⟩ := measuredValue_eq j.span m
      refine ⟨quotient_clamped_iff _ (by omega), _, _, hvalue, hquality, ?_⟩
      rw [if_neg (Nat.not_lt.mpr hmin)]
      exact congrArg _ (evaluateMeasurement_some (s := s.endPhase) hp hown j.start _ _)
    · rw [if_pos hopen, hfault]
  · intro hover
    rw [windowEnd_beyond hs (hm ▸ hover), sensorOverflow_point hs hj (hm ▸ hover), hfault]
    exact ⟨rfl, rfl⟩

end Sys2Proof.Machine

/-! SUPPORT. What the operations on the tables leave of the due queue, the converter and the schedule clock. -/

namespace Sys2Proof.Machine

@[simp] theorem gainUser_queue (s : State) (r : RefId) : (s.gainUser r).queue = s.queue := by rw [gainUser_frame]
@[simp] theorem gainUser_clock (s : State) (r : RefId) : (s.gainUser r).clock = s.clock := by rw [gainUser_frame]

@[simp] theorem loseUser_queue (s : State) (r : RefId) : (s.loseUser r).queue = s.queue := by rw [loseUser_frame]
@[simp] theorem loseUser_clock (s : State) (r : RefId) : (s.loseUser r).clock = s.clock := by rw [loseUser_frame]

@[simp] theorem requestLevel_queue (s : State) (b : Option ChannelId) (a : Alarm) :
    (s.requestLevel b a).queue = s.queue := by rw [requestLevel_frame]
@[simp] theorem requestLevel_converter (s : State) (b : Option ChannelId) (a : Alarm) :
    (s.requestLevel b a).converter = s.converter := by rw [requestLevel_frame]
@[simp] theorem requestLevel_clock (s : State) (b : Option ChannelId) (a : Alarm) :
    (s.requestLevel b a).clock = s.clock := by rw [requestLevel_frame]

@[simp] theorem bindChannel_queue (s : State) (b : Option ChannelId) (p : Slot) (a : Alarm) :
    (s.bindChannel b p a).queue = s.queue := by rw [bindChannel_frame]
@[simp] theorem bindChannel_converter (s : State) (b : Option ChannelId) (p : Slot) (a : Alarm) :
    (s.bindChannel b p a).converter = s.converter := by rw [bindChannel_frame]
@[simp] theorem bindChannel_clock (s : State) (b : Option ChannelId) (p : Slot) (a : Alarm) :
    (s.bindChannel b p a).clock = s.clock := by rw [bindChannel_frame]

@[simp] theorem unbindChannel_queue (s : State) (b : Option ChannelId) : (s.unbindChannel b).queue = s.queue := by
  rw [unbindChannel_frame]
@[simp] theorem unbindChannel_converter (s : State) (b : Option ChannelId) : (s.unbindChannel b).converter = s.converter := by
  rw [unbindChannel_frame]
@[simp] theorem unbindChannel_clock (s : State) (b : Option ChannelId) : (s.unbindChannel b).clock = s.clock := by
  rw [unbindChannel_frame]

@[simp] theorem announce_queue (s : State) (p : Slot) (r : PointRecord) (a : Alarm) :
    (s.announce p r a).queue = s.queue := by rw [announce_frame]
@[simp] theorem announce_converter (s : State) (p : Slot) (r : PointRecord) (a : Alarm) :
    (s.announce p r a).converter = s.converter := by rw [announce_frame]
@[simp] theorem announce_clock (s : State) (p : Slot) (r : PointRecord) (a : Alarm) :
    (s.announce p r a).clock = s.clock := by rw [announce_frame]

@[simp] theorem withdraw_queue (s : State) (p : Slot) : (s.withdraw p).queue = removeFrom s.queue (.point p) := by
  rw [State.withdraw, abortJob_eq]; rfl
@[simp] theorem withdraw_clock (s : State) (p : Slot) : (s.withdraw p).clock = s.clock := by
  rw [State.withdraw, abortJob_eq]; rfl

/-! AMEND_POINT does not reach the due queue or the clock (R13 to R15). -/

theorem amendSlot_queue (s : State) (p : Slot) (r n : PointRecord) : (s.amendSlot p r n).queue = s.queue := by
  simp [State.amendSlot, apply_ite State.queue, State.leavePoint]

theorem amendSlot_clock (s : State) (p : Slot) (r n : PointRecord) : (s.amendSlot p r n).clock = s.clock := by
  simp [State.amendSlot, apply_ite State.clock, State.leavePoint]

end Sys2Proof.Machine

/-! SUPPORT. What every row can make of the due queue, and with it that the clock stands still; the order of the queue (R90 to R95). -/

namespace Sys2Proof.Machine

/-! ### The requests to the due queue as a chain of placings and removals -/

/-- What a row can make of the due queue. -/
inductive QueueChange : List QueueEntry → List QueueEntry → Prop
  | same (q : List QueueEntry) : QueueChange q q
  /-- An entry is placed by the order of R94. -/
  | placed (e : QueueEntry) (q : List QueueEntry) : QueueChange q (placeEntry e q)
  /-- The entry of a record leaves the queue (R95). -/
  | removed (k : Record) (q : List QueueEntry) : QueueChange q (removeFrom q k)
  /-- The entry at the boundary falls due (R93, R94). -/
  | marked (now : Clock) (q : List QueueEntry) : QueueChange q (markBoundary now q)
  /-- CLEAR_TABLES and hardware reset (R172, R173). -/
  | cleared (q : List QueueEntry) : QueueChange q []
  | trans {q q' q'' : List QueueEntry} (h : QueueChange q q') (h' : QueueChange q' q'') : QueueChange q q''

namespace QueueChange

theorem inserted (q : List QueueEntry) (k : Record) (due now : Clock) : QueueChange q (insertInto q k due now) := by
  unfold insertInto
  split
  · exact same q
  · exact placed _ q

theorem returned (q : List QueueEntry) (k : Record) (due : Clock) : QueueChange q (returnInto q k due) := by
  unfold returnInto
  split
  · exact same q
  · exact placed _ q

theorem moved (q : List QueueEntry) (k : Record) (due now : Clock) : QueueChange q (moveWithin q k due now) := by
  unfold moveWithin
  split
  · exact (removed k q).trans (placed _ _)
  · exact same q

theorem broughtForward (now : Clock) (q : List QueueEntry) (p : Slot) : QueueChange q (bringForward now q p) := by
  unfold bringForward
  split
  · split
    · exact same q
    · exact moved q _ now now
  · exact same q

theorem allBroughtForward (now : Clock) (slots : List Slot) (q : List QueueEntry) :
    QueueChange q (slots.foldl (bringForward now) q) := by
  induction slots generalizing q with
  | nil => exact same q
  | cons p slots ih => exact (broughtForward now q p).trans (ih _)

end QueueChange

/-! ### How a row that leaves the clock alone changes the queue -/

/-- From `s` to `t` the due queue changes as a row changes it, and the schedule clock stands. -/
structure State.QueueTo (s t : State) : Prop where
  queue : QueueChange s.queue t.queue
  clock : t.clock = s.clock

namespace State.QueueTo

variable {s t u : State}

theorem same (hq : t.queue = s.queue) (hc : t.clock = s.clock) : s.QueueTo t := ⟨hq ▸ .same _, hc⟩

theorem trans (h : s.QueueTo t) (h' : t.QueueTo u) : s.QueueTo u := ⟨h.queue.trans h'.queue, h'.clock.trans h.clock⟩

theorem setPoint (s : State) (p : Slot) (r : Option PointRecord) : s.QueueTo (s.setPoint p r) := same rfl rfl

theorem setRef (s : State) (r : RefId) (x : Option RefRecord) : s.QueueTo (s.setRef r x) := same rfl rfl

theorem setSupplyLow (s : State) : s.QueueTo s.setSupplyLow := same rfl rfl

theorem insertEntry (s : State) (k : Record) (due : Clock) : s.QueueTo (s.insertEntry k due) := ⟨.inserted .., rfl⟩

theorem removeEntry (s : State) (k : Record) : s.QueueTo (s.removeEntry k) := ⟨.removed .., rfl⟩

theorem gainLiveUser (s : State) (r : RefId) : s.QueueTo (s.gainLiveUser r) := by
  unfold State.gainLiveUser
  split
  · dsimp only
    split
    · exact ⟨.inserted .., rfl⟩
    · exact same rfl rfl
  · exact same rfl rfl

theorem loseLiveUser (s : State) (r : RefId) : s.QueueTo (s.loseLiveUser r) := by
  unfold State.loseLiveUser
  split
  · dsimp only
    split
    · exact ⟨.removed .., rfl⟩
    · exact same rfl rfl
  · exact same rfl rfl

/-! ### The commands -/

theorem fillSlot (s : State) (p : Slot) (r : PointRecord) : s.QueueTo (s.fillSlot p r) :=
  same (by simp [State.fillSlot]) (by simp [State.fillSlot])

theorem start (s : State) (p : Slot) (r : PointRecord) : s.QueueTo (s.start p r) := by
  refine .trans ?_ (same (requestLevel_queue ..) (requestLevel_clock ..))
  exact ((setPoint ..).trans (insertEntry ..)).trans (gainLiveUser ..)

theorem withdraw (s : State) (p : Slot) : s.QueueTo (s.withdraw p) :=
  ⟨withdraw_queue s p ▸ .removed .., withdraw_clock s p⟩

theorem stopLive (s : State) (p : Slot) (r : PointRecord) : s.QueueTo (s.stopLive p r) := by
  refine .trans ?_ (same (requestLevel_queue ..) (requestLevel_clock ..))
  refine .trans ?_ (loseLiveUser ..)
  exact (withdraw ..).trans (setPoint ..)

theorem retire (s : State) (p : Slot) (r : PointRecord) : s.QueueTo (s.retire p r) := by
  have hlast : ∀ u : State, u.QueueTo
      (((((u.setPoint p none).setTag p none).loseUser r.reference).unbindChannel r.binding).leavePoint p) :=
    fun u => same (by simp [State.leavePoint]) (by simp [State.leavePoint])
  refine .trans ?_ (hlast _)
  split
  · exact (withdraw s p).trans (loseLiveUser ..)
  · exact same rfl rfl

theorem moveOwner (s : State) (p : Slot) (r : PointRecord) (owner : Byte) : s.QueueTo (s.moveOwner p r owner) := by
  rw [moveOwner_eq]
  exact same rfl rfl

theorem callCalibration (s : State) (r : RefId) : s.QueueTo (s.callCalibration r) := by
  unfold State.callCalibration
  split
  · split
    · exact ⟨.moved .., rfl⟩
    · exact same rfl rfl
  · exact insertEntry ..

theorem emptyRef (s : State) (r : RefId) : s.QueueTo (s.emptyRef r) := by
  rw [emptyRef_eq]
  exact ⟨.removed .., rfl⟩

theorem noticesRead (s : State) (source : Byte) : s.QueueTo (s.noticesRead source) := by
  unfold State.noticesRead
  exact same rfl rfl

/-! ### The timed fields and the outcomes of a job -/

theorem announce (s : State) (p : Slot) (r : PointRecord) (a : Alarm) : s.QueueTo (s.announce p r a) :=
  same (announce_queue ..) (announce_clock ..)

theorem expireDeadline (s : State) (p : Slot) : s.QueueTo (s.expireDeadline p) := by
  unfold State.expireDeadline
  split
  · split
    · split
      · exact same rfl rfl
      · exact (setPoint ..).trans (announce ..)
    · exact same rfl rfl
  · exact same rfl rfl

theorem expireOffer (s : State) (p : Slot) : s.QueueTo (s.expireOffer p) := by
  unfold State.expireOffer
  split
  · split
    · dsimp only
      split <;> exact same rfl rfl
    · exact same rfl rfl
  · exact same rfl rfl

theorem expireLocate (s : State) (p : Slot) : s.QueueTo (s.expireLocate p) := by
  unfold State.expireLocate
  split
  · split <;> exact same rfl rfl
  · exact same rfl rfl

theorem evaluateMeasurement (s : State) (p : Slot) (start : Clock) (v : Half) (q : Quality) :
    s.QueueTo (s.evaluateMeasurement p start v q) := by
  unfold State.evaluateMeasurement
  split
  · next r _ =>
    have hinsert : s.QueueTo ((s.setPoint p (some (measuredRecord r v q s.clock))).insertEntry (.point p)
      (start + intervalMs r.interval)) := (setPoint ..).trans (insertEntry ..)
    dsimp only
    split
    · exact hinsert.trans (announce ..)
    · exact hinsert
  · exact same rfl rfl

theorem evaluateFault (s : State) (p : Slot) (start : Clock) (q : Quality) : s.QueueTo (s.evaluateFault p start q) := by
  unfold State.evaluateFault
  split
  · next r _ =>
    have hqueue : s.QueueTo (if reachesLimit r then (s.setPoint p (some (faultedRecord r q))).loseLiveUser r.reference
        else (s.setPoint p (some (faultedRecord r q))).insertEntry (.point p) (start + intervalMs r.interval)) := by
      split
      · exact (setPoint ..).trans (loseLiveUser ..)
      · exact (setPoint ..).trans (insertEntry ..)
    dsimp only
    split
    · exact hqueue.trans (announce ..)
    · exact hqueue
  · exact same rfl rfl

theorem applyCount (s : State) (r : RefId) (n : BitVec 22) : s.QueueTo (s.applyCount r n) := by
  cases hx : s.refs[r] with
  | none =>
    simp only [State.applyCount, hx]
    exact same rfl rfl
  | some x =>
    rw [applyCount_some hx]
    refine ⟨?_, rfl⟩
    dsimp only
    split
    · exact .inserted ..
    · exact .same _

theorem applyRefFault (s : State) (r : RefId) (f : RefFault) : s.QueueTo (s.applyRefFault r f) := by
  cases hx : s.refs[r] with
  | none =>
    simp only [State.applyRefFault, hx]
    exact same rfl rfl
  | some x =>
    rw [applyRefFault_some hx]
    refine ⟨?_, rfl⟩
    dsimp only
    split
    · exact .inserted ..
    · exact .same _

theorem returnRef (s : State) (r : RefId) (due : Clock) : s.QueueTo (s.returnRef r due) := by
  cases hx : s.refs[r] with
  | none =>
    simp only [State.returnRef, hx]
    exact same rfl rfl
  | some x =>
    rw [returnRef_some hx]
    refine ⟨?_, rfl⟩
    dsimp only
    split
    · exact .returned ..
    · exact .same _

/-! ### The events of the converter and the due queue -/

theorem deliverPoint {j : Job} {outcome : Slot → State → State} (ho : ∀ p, s.QueueTo (outcome p s.endPhase)) :
    s.QueueTo (s.endPhase.deliverPoint j outcome) := by
  unfold State.deliverPoint
  split
  · exact ho _
  · exact same rfl rfl

theorem deliverRef {j : Job} {outcome : RefId → State → State} (ho : ∀ r, s.QueueTo (outcome r s.endPhase)) :
    s.QueueTo (s.endPhase.deliverRef j outcome) := by
  unfold State.deliverRef
  split
  · exact ho _
  · exact same rfl rfl

/-- The end of a phase touches the converter alone. -/
theorem endPhase (s : State) : s.QueueTo s.endPhase := same rfl rfl

theorem sensorOverflow (s : State) (frequency : Nat) : s.QueueTo (s.sensorOverflow frequency) := by
  unfold State.sensorOverflow
  split
  · split
    · exact deliverPoint fun _ => (endPhase s).trans (evaluateFault ..)
    · exact same rfl rfl
  · exact same rfl rfl

theorem windowEnd (s : State) (frequency : Nat) : s.QueueTo (s.windowEnd frequency) := by
  unfold State.windowEnd
  split
  · dsimp only
    split
    · exact same rfl rfl
    · refine deliverPoint fun p => (endPhase s).trans ?_
      split
      · exact evaluateFault ..
      · exact evaluateMeasurement ..
  · exact same rfl rfl

theorem countComplete (s : State) (frequency : Nat) : s.QueueTo (s.countComplete frequency) := by
  unfold State.countComplete
  split
  · split
    · refine deliverRef fun r => (endPhase s).trans ?_
      split
      · exact applyCount ..
      · exact applyRefFault ..
    · exact same rfl rfl
  · exact same rfl rfl

theorem timeBaseLimit (s : State) (frequency : Nat) : s.QueueTo (s.timeBaseLimit frequency) := by
  unfold State.timeBaseLimit
  split
  · split
    · exact same rfl rfl
    · exact deliverRef fun _ => (endPhase s).trans (applyRefFault ..)
  · exact same rfl rfl

theorem latchSupply (s : State) (vdda : Nat) : s.QueueTo (s.latchSupply vdda) := by
  unfold State.latchSupply
  split
  · split
    · unfold State.enterPhase
      split <;> exact same rfl rfl
    · have hheld : s.QueueTo (s.setConverter { s.converter with state := .hold }) := same rfl rfl
      unfold State.returnUnrun
      dsimp only
      refine .trans ?_ (setSupplyLow _)
      split
      · exact hheld.trans (returnRef ..)
      · exact ⟨.returned .., rfl⟩
  · exact same rfl rfl

theorem endHold (s : State) : s.QueueTo s.endHold := by
  unfold State.endHold
  split <;> exact same rfl rfl

theorem handRef (s : State) (r : RefId) (x : RefRecord) (due : Clock) : s.QueueTo (s.handRef r x due) := ⟨.removed .., rfl⟩

theorem handPoint (s : State) (p : Slot) (q : PointRecord) (x : RefRecord) (due : Clock) :
    s.QueueTo (s.handPoint p q x due) := ⟨.removed .., rfl⟩

theorem dispatchHead (s : State) (e : QueueEntry) : s.QueueTo (s.dispatchHead e) := by
  unfold State.dispatchHead
  split
  · split
    · exact handRef ..
    · exact same rfl rfl
  · split
    · split
      · split
        · exact handPoint ..
        · exact handRef ..
        · exact (removeEntry ..).trans (evaluateFault ..)
        · exact same rfl rfl
      · exact same rfl rfl
    · exact same rfl rfl

theorem dispatched (s : State) : s.QueueTo s.dispatched := by
  unfold State.dispatched
  split
  · split
    · exact dispatchHead ..
    · exact same rfl rfl
  · exact same rfl rfl

/-! ### The events of the other units -/

theorem atBoundary (s : State) (c : ChannelId) : s.QueueTo (s.atBoundary c) := by
  unfold State.atBoundary
  split <;> exact same rfl rfl

theorem atDuty (s : State) (c : ChannelId) : s.QueueTo (s.atDuty c) := by
  unfold State.atDuty
  split <;> exact same rfl rfl

theorem dimEnded (s : State) (c : Column) : s.QueueTo (s.dimEnded c) := by
  unfold State.dimEnded
  split <;> exact same rfl rfl

theorem blanked (s : State) : s.QueueTo s.blanked := by
  unfold State.blanked
  split <;> exact same rfl rfl

theorem echoed (s : State) (data : Byte) (mark stop : Bool) : s.QueueTo (s.echoed data mark stop) := by
  unfold State.echoed
  split
  · exact same rfl rfl
  · split
    · split <;> exact same rfl rfl
    · exact same rfl rfl

/-! ### Every row -/

theorem complete {code : Byte} {command : Byte → List Byte → State → Answer} (he : complete code command s = .next t)
    (hc : ∀ source payload, (command source payload s).Leaves s.QueueTo) : s.QueueTo t :=
  complete_keeps he (same rfl rfl) (fun _ _ hu => hu.trans (same rfl rfl)) fun f _ => hc f.source f.payload

theorem running {u : State} (he : running s u = .next t) (hu : s.QueueTo u) : s.QueueTo t :=
  running_keeps he (same rfl rfl) hu

theorem unknownCommand (he : execUnknownCommand s = .next t) : s.QueueTo t := by
  unfold execUnknownCommand at he
  split at he
  · split at he <;> exact Host.Outcome.next.inj he ▸ same rfl rfl
  · exact Host.Outcome.next.inj he ▸ same rfl rfl

/-- Every row but the three that write the clock. -/
theorem of_exec {c : Instr} (he : exec c s = .next t) (hstep : c ≠ .scheduleClockStep) (hreset : c ≠ .hardwareReset)
    (hrelease : ∀ addr rate, c ≠ .resetRelease addr rate) : s.QueueTo t := by
  have hsame : s.QueueTo s := same rfl rfl
  cases c with
  | definePoint =>
    exact complete he fun _ _ => definePoint_leaves fun _ _ _ _ _ _ _ _ _ => leaves_bindingTest (fillSlot ..)
  | amendPoint =>
    exact complete he fun _ _ => amendPoint_leaves fun _ _ _ _ _ _ _ _ _ _ =>
      leaves_bindingTest (same (amendSlot_queue ..) (amendSlot_clock ..))
  | startPoint => exact complete he fun _ _ => startPoint_leaves fun _ _ _ _ => start ..
  | stopPoint =>
    exact complete he fun _ _ => stopPoint_leaves (fun _ _ _ _ => stopLive ..) fun _ _ _ _ => same rfl rfl
  | retirePoint => exact complete he fun _ _ => retirePoint_leaves fun _ _ _ => retire ..
  | readPoint => exact complete he fun _ _ => readPoint_leaves hsame
  | findTag => exact complete he fun _ _ => findTag_leaves hsame
  | listPoints => exact complete he fun _ _ => listPoints_leaves hsame
  | offerPoint => exact complete he fun _ _ => offerPoint_leaves fun _ _ _ _ _ _ _ => same rfl rfl
  | withdrawOffer => exact complete he fun _ _ => withdrawOffer_leaves fun _ _ _ => same rfl rfl
  | takePoint => exact complete he fun _ _ => takePoint_leaves fun _ _ _ _ _ => moveOwner ..
  | assignOwner => exact complete he fun _ _ => assignOwner_leaves fun _ _ _ _ _ _ _ => moveOwner ..
  | defineRef => exact complete he fun _ _ => defineRef_leaves fun _ _ _ _ _ _ _ => same rfl rfl
  | amendRef =>
    exact complete he fun _ _ => amendRef_leaves fun _ _ _ _ _ _ _ _ _ _ _ _ => same rfl rfl
  | calibrateRef =>
    exact complete he fun _ _ => calibrateRef_leaves fun _ _ _ _ => (setRef ..).trans (callCalibration ..)
  | readRef => exact complete he fun _ _ => readRef_leaves hsame
  | retireRef => exact complete he fun _ _ => retireRef_leaves fun _ _ _ _ => emptyRef ..
  | measureNow => exact complete he fun _ _ => measureNow_leaves fun _ => ⟨.broughtForward .., rfl⟩
  | measureOwned => exact complete he fun _ _ => measureOwned_leaves fun _ => ⟨.allBroughtForward .., rfl⟩
  | configureDrive => exact complete he fun _ _ => configureDrive_leaves fun _ _ _ _ _ _ => same rfl rfl
  | setDriveLevels => exact complete he fun _ _ => setDriveLevels_leaves fun _ _ => same rfl rfl
  | setDrivePeriod => exact complete he fun _ _ => setDrivePeriod_leaves fun _ _ _ => same rfl rfl
  | setManualDuty => exact complete he fun _ _ => setManualDuty_leaves fun _ _ => same rfl rfl
  | enableDrive => exact complete he fun _ _ => enableDrive_leaves fun _ _ => same rfl rfl
  | disableDrive => exact complete he fun _ _ => disableDrive_leaves fun _ => same rfl rfl
  | releaseDrive => exact complete he fun _ _ => releaseDrive_leaves fun _ _ _ => same rfl rfl
  | readDrive => exact complete he fun _ _ => readDrive_leaves hsame
  | locatePoint => exact complete he fun _ _ => locatePoint_leaves fun _ _ _ _ => same rfl rfl
  | readNotices => exact complete he fun _ _ => readNotices_leaves (noticesRead ..)
  | readStatus => exact complete he fun _ _ => readStatus_leaves hsame
  | clearCauses => exact complete he fun _ _ => clearCauses_leaves (same rfl rfl)
  | setDevice => exact complete he fun _ _ => setDevice_leaves fun _ => same rfl rfl
  | clearTables => exact complete he fun _ _ => clearTables_leaves ⟨.cleared _, rfl⟩
  | unknownCommand => exact unknownCommand he
  | hardwareReset => exact absurd rfl hreset
  | resetRelease addr rate => exact absurd rfl (hrelease addr rate)
  | scheduleClockStep => exact absurd rfl hstep
  | fallingDue => exact running he ⟨.marked .., rfl⟩
  | offerExpiry slot => exact running he (expireOffer s slot)
  | locateExpiry slot => exact running he (expireLocate s slot)
  | freshnessDeadlineExpiry slot => exact running he (expireDeadline s slot)
  | dispatch => exact running he (dispatched s)
  | supplyCheckLatch vdda => exact running he (latchSupply s vdda)
  | holdExpiry => exact running he (endHold s)
  | referenceCountComplete frequency => exact running he (countComplete s frequency)
  | referenceTimeBaseLimit frequency => exact running he (timeBaseLimit s frequency)
  | sensorCountOverflow frequency => exact running he (sensorOverflow s frequency)
  | sensorWindowEnd frequency => exact running he (windowEnd s frequency)
  | periodBoundary channel => exact running he (atBoundary s channel)
  | rowSlotStart => exact running he (same rfl rfl)
  | cellOnTimeEnd column => exact running he (dimEnded s column)
  | blankingGap => exact running he (blanked s)
  | addressCharacter value => exact running he (same rfl rfl)
  | dataCharacter value => exact running he (same rfl rfl)
  | stopBitError data mark => exact running he (same rfl rfl)
  | idleGap => exact running he (same rfl rfl)
  | lineBreak => exact running he (same rfl rfl)
  | lineRise => exact running he (same rfl rfl)
  | turnaroundEnd => exact running he (same rfl rfl)
  | characterEcho data mark stop => exact running he (echoed s data mark stop)
  | driveDutyCount channel => exact running he (atDuty s channel)

end State.QueueTo

/-! ### Marked entries stand ahead of unmarked ones (R94) -/

/-- Marked entries of a queue stand ahead of unmarked ones. -/
def MarksFirst (q : List QueueEntry) : Prop := q.Pairwise fun x y => y.mark = true → x.mark = true

/-- Between entries of which one is marked the mark alone decides (R94 test 1). -/
theorem precedes_of_mark_ne {x y : QueueEntry} (h : x.mark ≠ y.mark) : precedes x y = x.mark := by
  simp [precedes, h]

/-- A marked entry goes behind marked entries only, and an unmarked one ahead of unmarked ones only (R94). -/
theorem MarksFirst.placeEntry {q : List QueueEntry} (h : MarksFirst q) (e : QueueEntry) : MarksFirst (placeEntry e q) := by
  obtain ⟨a, b, hq, hplaced, hahead, hbehind⟩ := placeEntry_split e q
  rw [hq, MarksFirst, List.pairwise_append] at h
  obtain ⟨ha, hb, hab⟩ := h
  rw [hplaced, MarksFirst, List.pairwise_append]
  refine ⟨ha, List.pairwise_cons.mpr ⟨fun y hy hym => ?_, hb⟩, fun x hx y hy => ?_⟩
  · by_contra hem
    cases b with
    | nil => exact absurd hy List.not_mem_nil
    | cons z b =>
      have hz : z.mark = true := by
        rcases List.mem_cons.mp hy with rfl | hy
        · exact hym
        · exact (List.pairwise_cons.mp hb).1 y hy hym
      have hprec := hbehind z (by simp)
      rw [precedes_of_mark_ne (by rw [hz]; exact hem)] at hprec
      exact hem hprec
  · rcases List.mem_cons.mp hy with rfl | hy
    · intro hem
      by_contra hxm
      have hprec := hahead x hx
      rw [precedes_of_mark_ne (by rw [hem]; exact Ne.symm hxm)] at hprec
      exact absurd hem (by rw [hprec]; exact Bool.false_ne_true)
    · exact hab x hx y hy

/-- Marking the entry at the boundary keeps the two groups apart (R94). -/
theorem MarksFirst.markBoundary {q : List QueueEntry} (h : MarksFirst q) (now : Clock) :
    MarksFirst (markBoundary now q) := by
  induction q with
  | nil => exact h
  | cons x q ih =>
    obtain ⟨hx, hq⟩ := List.pairwise_cons.mp h
    unfold Machine.markBoundary
    split
    · next hm => exact List.pairwise_cons.mpr ⟨fun _ _ _ => hm, ih hq⟩
    · split
      · exact List.pairwise_cons.mpr ⟨fun _ _ _ => rfl, hq⟩
      · exact h

theorem QueueChange.marksFirst {q q' : List QueueEntry} (hc : QueueChange q q') (h : MarksFirst q) : MarksFirst q' := by
  induction hc with
  | same q => exact h
  | placed e q => exact h.placeEntry e
  | removed k q => exact h.filter _
  | marked now q => exact h.markBoundary now
  | cleared q => exact List.Pairwise.nil
  | trans _ _ ih ih' => exact ih' (ih h)

theorem exec_markedFirst {c : Instr} {s t : State} (h : s.MarkedFirst) (he : exec c s = .next t) : t.MarkedFirst := by
  by_cases hreset : c = .hardwareReset
  · subst hreset
    exact Host.Outcome.next.inj he ▸ List.Pairwise.nil
  by_cases hrelease : ∃ addr rate, c = .resetRelease addr rate
  · obtain ⟨addr, rate, rfl⟩ := hrelease
    change execResetRelease addr rate s = .next t at he
    unfold execResetRelease at he
    split at he
    · exact Host.Outcome.next.inj he ▸ List.Pairwise.nil
    · exact Host.Outcome.next.inj he ▸ h
  by_cases hstep : c = .scheduleClockStep
  · subst hstep
    exact running_keeps he h h
  exact (State.QueueTo.of_exec he hstep hreset fun addr rate hc => hrelease ⟨addr, rate, hc⟩).queue.marksFirst h

/-- Settles O8: a row changes the queue by placing, removing and marking entries, each of which keeps the two groups apart. -/
theorem markedEntriesStayFirst : Obligations.MarkedEntriesStayFirst := by
  intro s t hs h
  rcases step_next h with rfl | ⟨c, rest, -, h⟩
  · exact hs
  · exact exec_markedFirst (s := { s with pending := rest }) hs h

end Sys2Proof.Machine

/-! SUPPORT. The schedule clock and its comparison, falling due, the order of entries, the requests to the queue and the due times of a
reference (R90 to R97). -/

namespace Sys2Proof.Machine

/-! ### The schedule clock (R90, R91) -/

/-- The comparison of R91 is the sign of the difference. -/
theorem atOrBefore_iff_toInt (a b : Clock) : atOrBefore a b = true ↔ 0 ≤ (b - a).toInt := by
  rw [atOrBefore, decide_eq_true_iff, BitVec.toInt_eq_toNat_cond]
  have := (b - a).isLt
  split <;> omega

theorem isEarlier_iff (a b : Clock) : isEarlier a b = true ↔ atOrBefore a b = true ∧ a ≠ b := by
  simp [isEarlier]

/-! ### Falling due (R93, R94) -/

/-- Only the entry at the boundary of the marked and the unmarked entries falls due. -/
theorem markBoundary_append {a : List QueueEntry} (ha : ∀ x ∈ a, x.mark = true) (now : Clock) (q : List QueueEntry) :
    markBoundary now (a ++ q) = a ++ markBoundary now q := by
  induction a with
  | nil => rfl
  | cons x a ih =>
    obtain ⟨hx, ha⟩ := List.forall_mem_cons.mp ha
    rw [List.cons_append, markBoundary, if_pos hx, ih ha, List.cons_append]

theorem markBoundary_due {e : QueueEntry} {now : Clock} (hm : e.mark = false) (hdue : atOrBefore e.due now = true)
    (q : List QueueEntry) : markBoundary now (e :: q) = { e with mark := true } :: q := by
  simp [markBoundary, hm, hdue]

theorem markBoundary_early {e : QueueEntry} {now : Clock} (hm : e.mark = false) (hearly : atOrBefore e.due now = false)
    (q : List QueueEntry) : markBoundary now (e :: q) = e :: q := by
  simp [markBoundary, hm, hearly]

theorem markBoundary_of_marked {q : List QueueEntry} (h : ∀ x ∈ q, x.mark = true) (now : Clock) : markBoundary now q = q := by
  simpa [markBoundary] using markBoundary_append h now []

/-- Settles O17: the clock is read off `State.QueueTo`, and one FALLING_DUE reaches the entry at the boundary alone. -/
theorem theClockStepsComparesAndMakesEntriesDue : Obligations.TheClockStepsComparesAndMakesEntriesDue := by
  refine ⟨fun s h => running_free h _, by decide, by decide, ?_, ?_, ?_, fun s h => ?_⟩
  · intro c s t he hstep hreset hrelease
    exact (State.QueueTo.of_exec he hstep hreset hrelease).clock
  · intro s t he
    exact Host.Outcome.next.inj he ▸ rfl
  · intro a b
    exact ⟨atOrBefore_iff_toInt a b, decide_eq_true_iff, by simp [isAfter], isEarlier_iff a b⟩
  · have hrow : exec .fallingDue s = .next (s.setQueue (markBoundary s.clock s.queue)) := running_free h _
    rw [hrow]
    constructor
    · intro a b e hq ha hm
      rw [hq, markBoundary_append ha]
      constructor
      · intro hdue
        rw [markBoundary_due hm hdue]
        rfl
      · intro hearly
        rw [markBoundary_early hm hearly, ← hq]
        rfl
    · intro hmarked
      rw [markBoundary_of_marked hmarked]
      rfl

/-! ### The order of entries (R94) -/

theorem recordPrecedes_iff (j k : Record) : recordPrecedes j k = true ↔
    (∃ a b, j = .ref a ∧ k = .point b) ∨
    (∃ a b, j = .ref a ∧ k = .ref b ∧ a < b) ∨ (∃ a b, j = .point a ∧ k = .point b ∧ a < b) := by
  cases j <;> cases k <;> simp [recordPrecedes]

/-- The first test in which two entries differ decides (R94). -/
theorem precedes_iff (x y : QueueEntry) : precedes x y = true ↔
    (x.mark = true ∧ y.mark = false) ∨ (x.mark = y.mark ∧ isEarlier x.due y.due = true) ∨
      (x.mark = y.mark ∧ x.due = y.due ∧ recordPrecedes x.record y.record = true) := by
  by_cases hm : x.mark = y.mark
  · by_cases hd : x.due = y.due
    · simp [precedes, hm, hd, isEarlier_iff]
    · simp [precedes, hm, hd]
  · have hother : x.mark = true → y.mark = false := fun h => by simpa [h] using Ne.symm hm
    simp only [precedes_of_mark_ne hm, hm, false_and, or_false]
    exact ⟨fun h => ⟨h, hother h⟩, fun ⟨h, _⟩ => h⟩

/-- Settles O18: the four tests in their order, and the cut of the queue at which an entry is placed. -/
theorem entriesAreOrderedAndPlacedByTheFourTests : Obligations.EntriesAreOrderedAndPlacedByTheFourTests := by
  refine ⟨fun x y => ?_, placeEntry_split⟩
  rw [precedes_iff, recordPrecedes_iff, and_or_left, and_or_left]

/-! ### The requests of R95 and the due times of Table 5-3 -/

/-- A VALID reference with a first live user is due one used interval after its calibration, or now when that time is past or
out of reach (Table 5-3, line 1). -/
theorem refDue_valid {x : RefRecord} {c : Clock} (hs : x.state = .valid) (hc : x.calTime = some c) (now : Clock) :
    refDue x now = if atOrBefore now (c + x.usedRecal.setWidth 32 * 1000) = true ∧ atOrBefore c now = true
      then c + x.usedRecal.setWidth 32 * 1000 else now := by
  simp only [refDue, hs, hc, secondsMs, Bool.and_eq_true]

/-- A FAULTED reference with a first live user is due one second after its fault, or now (Table 5-3, line 2). -/
theorem refDue_faulted {x : RefRecord} {f : Clock} (hs : x.state = .faulted) (hf : x.faultTime = some f) (now : Clock) :
    refDue x now = if atOrBefore now (f + 1000) = true ∧ atOrBefore f now = true then f + 1000 else now := by
  simp only [refDue, hs, hf, Bool.and_eq_true]

theorem refDue_uncal {x : RefRecord} (hs : x.state = .uncal) (now : Clock) : refDue x now = now := by
  simp only [refDue, hs]

/-- Settles O19: each request by whether the record has an entry, and the due time by the state of the reference. -/
theorem queueRequestsAndDueTimesFollowTheirTables : Obligations.QueueRequestsAndDueTimesFollowTheirTables := by
  constructor
  · intro q k due now
    refine ⟨fun e he => ⟨insertInto_some he due now, returnInto_some he due, moveWithin_some he due now⟩,
      fun hn => ⟨insertInto_none hn due now, returnInto_none hn due, moveWithin_none hn due now, removeFrom_none hn⟩,
      entryIn_insertInto_self q k due now, entryIn_returnInto_self q k due, entryIn_moveWithin_self q k due now,
      entryIn_removeFrom_self q k, fun j hj => ?_⟩
    exact ⟨entryIn_insertInto_ne q due now hj, entryIn_returnInto_ne q due hj, entryIn_moveWithin_ne q due now hj,
      entryIn_removeFrom_ne hj⟩
  · intro x now
    refine ⟨fun c hs hc => ?_, fun f hs hf => ?_, fun hs => refDue_uncal hs now⟩
    · rw [refDue_valid hs hc]
      exact ⟨fun h1 h2 => if_pos ⟨h1, h2⟩, fun h => if_neg h⟩
    · rw [refDue_faulted hs hf]
      exact ⟨fun h1 h2 => if_pos ⟨h1, h2⟩, fun h => if_neg h⟩

end Sys2Proof.Machine

/-! SUPPORT. MEASURE_NOW, MEASURE_OWNED and DISPATCH: what each completes to (R100 to R107). -/

namespace Sys2Proof.Machine

/-! ### Bringing points forward (R105) -/

/-- An unmarked entry is taken out and placed again, due now and marked. -/
theorem bringForward_unmarked {q : List QueueEntry} {p : Slot} {e : QueueEntry} (he : entryIn q (.point p) = some e)
    (hm : e.mark = false) (now : Clock) :
    bringForward now q p = placeEntry ⟨.point p, now, true⟩ (removeFrom q (.point p)) := by
  simp [bringForward, he, hm, moveWithin_some he]

theorem bringForward_marked {q : List QueueEntry} {p : Slot} {e : QueueEntry} (he : entryIn q (.point p) = some e)
    (hm : e.mark = true) (now : Clock) : bringForward now q p = q := by
  simp [bringForward, he, hm]

theorem bringForward_none {q : List QueueEntry} {p : Slot} (h : entryIn q (.point p) = none) (now : Clock) :
    bringForward now q p = q := by
  simp [bringForward, h]

/-- The record of a point is none of those of slots among which it is not. -/
theorem point_ne_of_notMem {slots : List Slot} {p : Slot} (hp : p ∉ slots) : ∀ j ∈ slots, Record.point p ≠ .point j := by
  rintro j hj ⟨⟩
  exact hp hj

/-- Points brought forward one after another leave the entry of every other record as it is. -/
theorem entryIn_foldl_bringForward_ne (now : Clock) {slots : List Slot} {k : Record} (h : ∀ p ∈ slots, k ≠ .point p)
    (q : List QueueEntry) : entryIn (slots.foldl (bringForward now) q) k = entryIn q k := by
  induction slots generalizing q with
  | nil => rfl
  | cons p slots ih =>
    obtain ⟨hp, hslots⟩ := List.forall_mem_cons.mp h
    rw [List.foldl_cons, ih hslots, entryIn_bringForward_ne now q hp]

/-- Of points brought forward one after another, each once, the entry of each is as after its own turn. -/
theorem entryIn_foldl_bringForward_mem (now : Clock) {slots : List Slot} (hn : slots.Nodup) {p : Slot} (hp : p ∈ slots)
    (q : List QueueEntry) : entryIn (slots.foldl (bringForward now) q) (.point p) =
      (entryIn q (.point p)).map (fun e => if e.mark = true then e else ⟨.point p, now, true⟩) := by
  induction slots generalizing q with
  | nil => exact absurd hp List.not_mem_nil
  | cons k slots ih =>
    obtain ⟨hk, hslots⟩ := List.nodup_cons.mp hn
    rw [List.foldl_cons]
    by_cases hpk : p = k
    · subst hpk
      rw [entryIn_foldl_bringForward_ne now (point_ne_of_notMem hk), entryIn_bringForward_self]
    · rw [ih hslots ((List.mem_cons.mp hp).resolve_left hpk),
        entryIn_bringForward_ne now q fun he => hpk (Record.point.inj he)]

/-- MEASURE_NOW of an admitted source on a non-vacant slot: the checks on the state of the point and on the job (R106). -/
theorem measureNow_admitted {s : State} {source : Byte} {p : Slot} {r : PointRecord} (hr : s.points[p] = some r)
    (ha : admitted source r.owner) : measureNow source [slotByte p] s =
      require (r.state == .live) .wrongState (require (!s.isCurrent (.point p)) .inFlight
        (.ok (s.setQueue (bringForward s.clock s.queue p)) [])) := by
  simp only [measureNow, onPoint_some hr, mayChange_of_admitted ha, require_true]

/-- MEASURE_OWNED brings the selected slots forward in their order and answers their number (R107). -/
theorem measureOwned_nil (source : Byte) (s : State) : measureOwned source [] s =
    .ok (s.setQueue (((List.finRange 48).filter (s.ownedInQueue source)).foldl (bringForward s.clock) s.queue))
      [countByte ((List.finRange 48).filter (s.ownedInQueue source)).length] := rfl

/-- The slots that MEASURE_OWNED selects (R107). -/
theorem ownedInQueue_iff (s : State) (source : Byte) (p : Slot) : s.ownedInQueue source p = true ↔
    (∃ e, entryIn s.queue (.point p) = some e) ∧ (source = 15 ∨ ∃ r, s.points[p] = some r ∧ r.owner = source) := by
  simp [State.ownedInQueue, State.entryOf, Option.isSome_iff_exists, Config.service, Option.any_eq_true]

/-- Settles O37: both commands are runs of `bringForward`, one slot or the selected ones in their order. -/
theorem measurementsAreBroughtForward : Obligations.MeasurementsAreBroughtForward := by
  unfold Obligations.MeasurementsAreBroughtForward
  intro forward
  have hforward : bringForward = forward := by
    funext now q p
    cases he : entryIn q (.point p) with
    | none => simp only [bringForward_none he, forward, he]
    | some e =>
      cases hm : e.mark with
      | true => simp [bringForward_marked he hm, forward, he, hm]
      | false => simp [bringForward_unmarked he hm, forward, he, hm]
  rw [← hforward]
  constructor
  · intro s kind source p r h hr ha
    have hanswer := measureNow_admitted hr ha
    refine ⟨fun hl hc => ?_, fun hl => ?_, fun hl hc => ?_⟩
    · rw [hl, hc] at hanswer
      exact completes_ok rfl h hanswer rfl
    · exact completes_refused rfl h (hanswer ▸ refusedWith_require (beq_eq_false_iff_ne.mpr hl) .wrongState _)
    · rw [hl, hc] at hanswer
      exact completes_refused rfl h ⟨.inFlight, hanswer, rfl⟩
  · intro s kind source h
    have hsorted : ((List.finRange 48).filter (s.ownedInQueue source)).Pairwise (· < ·) :=
      (List.pairwise_lt_finRange 48).filter _
    refine ⟨_, hsorted, fun p => ?_, completes_ok rfl h (measureOwned_nil source s) rfl, fun p hp e he => ?_, fun p hp => ?_, fun r => ?_⟩
    · rw [List.mem_filter, ownedInQueue_iff]
      exact and_iff_right (List.mem_finRange p)
    · rw [entryIn_foldl_bringForward_mem _ (hsorted.imp ne_of_lt) hp, he, Option.map_some]
    · exact entryIn_foldl_bringForward_ne _ (point_ne_of_notMem hp) _
    · exact entryIn_foldl_bringForward_ne _ (fun _ _ => Record.noConfusion) _

/-! ### Dispatch (R100 to R103) -/

section
variable {s : State} {e : QueueEntry} {rest : List QueueEntry} {r : RefId} {p : Slot} {q : PointRecord} {x : RefRecord}

theorem dispatched_marked (hi : s.converter.state = .idle) (hq : s.queue = e :: rest) (hm : e.mark = true) :
    s.dispatched = s.dispatchHead e := by
  simp only [State.dispatched, hi, hq, hm, if_true]

/-- Without an IDLE converter and a marked head nothing is dispatched (R100). -/
theorem dispatched_nothing
    (h : s.converter.state ≠ .idle ∨ s.queue = [] ∨ ∃ e rest, s.queue = e :: rest ∧ e.mark = false) : s.dispatched = s := by
  unfold State.dispatched
  split
  · next e rest hi hq =>
    rcases h with h | h | ⟨e', rest', hq', hm⟩
    · exact absurd hi h
    · exact absurd (hq.symm.trans h) (List.cons_ne_nil _ _)
    · obtain ⟨rfl, -⟩ := List.cons_eq_cons.mp (hq.symm.trans hq')
      simp [hm]
  · rfl

/-- A reference entry is handed over with its due time (R101). -/
theorem dispatchHead_ref (he : e.record = .ref r) (hx : s.refs[r] = some x) : s.dispatchHead e = s.handRef r x e.due := by
  simp only [State.dispatchHead, he, hx]

/-- A point on a VALID reference is handed over with its due time (R101). -/
theorem dispatchHead_valid (he : e.record = .point p) (hp : s.points[p] = some q) (hx : s.refs[q.reference] = some x)
    (hs : x.state = .valid) : s.dispatchHead e = s.handPoint p q x e.due := by
  simp only [State.dispatchHead, he, hp, hx, hs]

/-- A point on an UNCAL reference has its reference handed over, due now (R102). -/
theorem dispatchHead_uncal (he : e.record = .point p) (hp : s.points[p] = some q) (hx : s.refs[q.reference] = some x)
    (hs : x.state = .uncal) : s.dispatchHead e = s.handRef q.reference x s.clock := by
  simp only [State.dispatchHead, he, hp, hx, hs]

/-- A point on a FAULTED reference leaves the queue for its fault outcome (R103). -/
theorem dispatchHead_faulted (he : e.record = .point p) (hp : s.points[p] = some q) (hx : s.refs[q.reference] = some x)
    (hs : x.state = .faulted) :
    s.dispatchHead e = (s.removeEntry (.point p)).evaluateFault p s.clock .refFault := by
  simp only [State.dispatchHead, he, hp, hx, hs]

end

/-- Settles O38: the head entry by its record and by the state of its reference. -/
theorem dispatchActsOnTheMarkedHead : Obligations.DispatchActsOnTheMarkedHead := by
  intro s hreset
  have hrow : exec .dispatch s = .next s.dispatched := running_free hreset _
  refine ⟨fun e rest hi hq hm => ?_, fun h => by rw [hrow, dispatched_nothing h]⟩
  rw [hrow, dispatched_marked hi hq hm]
  refine ⟨fun r x he hx => ?_, fun p q x he hp hx => ⟨fun hs => ?_, fun hs => ?_, fun hs hown => ?_⟩⟩
  · rw [dispatchHead_ref he hx]
    rfl
  · rw [dispatchHead_valid he hp hx hs]
    rfl
  · rw [dispatchHead_uncal he hp hx hs, ← hs]
    rfl
  · rw [dispatchHead_faulted he hp hx hs]
    exact congrArg _ (evaluateFault_some (s := s.removeEntry (.point p)) hp hx hown s.clock .refFault)

end Sys2Proof.Machine

/-! SUPPORT. The due queue, the converter, the LIVE points and the references agree (R92, R96, R97, R47, R48): what is asked of one
record, how one record changes while the others stand, and that every row keeps the agreement. -/

namespace Sys2Proof.Machine

/-! ### The agreement, record by record -/

/-- At most one entry a record (R92). -/
def EachOnce (q : List QueueEntry) : Prop := (q.map QueueEntry.record).Nodup

/-- The record has an entry in the due queue. -/
def State.queued (s : State) (k : Record) : Bool := (s.entryOf k).isSome

/-- A reference that wants an entry: it has live users or a request (R97). -/
def RefRecord.wanted (x : RefRecord) : Bool := decide (0 < x.liveUsers) || x.request

/-- A CALIBRATING reference, and no other, has a prior state, which is another one (R47, R48). -/
def RefRecord.priorSound (x : RefRecord) : Prop :=
  (x.state == .calibrating) = x.prior.isSome ∧ x.prior ≠ some .calibrating

/-- What the agreement asks of one record: of a point R92 and R96, of a reference R92, R97, R47 and R48. -/
def State.Fits (s : State) : Record → Prop
  | .point p =>
    s.queued (.point p) = (!s.isCurrent (.point p) && s.isLive p) ∧ (s.isCurrent (.point p) = true → s.isLive p = true)
  | .ref r =>
    s.queued (.ref r) = (!s.isCurrent (.ref r) && (s.refs[r]).any RefRecord.wanted) ∧
    s.isCurrent (.ref r) = (s.refs[r]).any (fun x => x.state == .calibrating) ∧ ∀ x ∈ s.refs[r], x.priorSound

theorem fits_point_iff (s : State) (p : Slot) : s.Fits (.point p) ↔
    (s.isCurrent (.point p) = true → s.entryOf (.point p) = none) ∧
    ((s.entryOf (.point p)).isSome || s.isCurrent (.point p)) = s.isLive p := by
  simp only [State.Fits, State.queued]
  cases he : s.entryOf (.point p) <;> cases hc : s.isCurrent (.point p) <;> cases hl : s.isLive p <;> simp

theorem scheduleSound_iff (s : State) : s.ScheduleSound ↔
    EachOnce s.queue ∧ (∀ k, s.Fits k) ∧ s.converter.state.kindsAgree = true := by
  constructor
  · rintro ⟨honce, hpoint, -, hlive, hwanted, hcalibrating, hprior, hkinds⟩
    refine ⟨honce, fun k => ?_, hkinds⟩
    cases k with
    | ref r => exact ⟨hwanted r, hcalibrating r, hprior r⟩
    | point p => exact (fits_point_iff s p).mpr ⟨hpoint p, hlive p⟩
  · rintro ⟨honce, hfits, hkinds⟩
    have hpoint := fun p => (fits_point_iff s p).mp (hfits (.point p))
    refine ⟨honce, fun p => (hpoint p).1, fun r hc => ?_, fun p => (hpoint p).2, fun r => (hfits (.ref r)).1,
      fun r => (hfits (.ref r)).2.1, fun r => (hfits (.ref r)).2.2, hkinds⟩
    obtain ⟨hq, -⟩ := hfits (.ref r)
    simpa [State.queued, hc] using hq

/-- The agreement on a record reads its entry, whether it is the current job, and the record. -/
theorem State.Fits.congr {s t : State} {k : Record} (h : s.Fits k) (hq : t.queued k = s.queued k)
    (hc : t.isCurrent k = s.isCurrent k) (hl : ∀ p, .point p = k → t.isLive p = s.isLive p)
    (hr : ∀ r, .ref r = k → t.refs[r] = s.refs[r]) : t.Fits k := by
  cases k with
  | ref r => simpa only [State.Fits, hq, hc, hr r rfl] using h
  | point p => simpa only [State.Fits, hq, hc, hl p rfl] using h

/-! ### The current job -/

theorem isCurrent_of_job {s : State} {j : Job} (h : s.converter.state.job = some j) (k : Record) :
    s.isCurrent k = (j.record == k) := by
  simp only [State.isCurrent, h]

theorem isCurrent_of_jobless {s : State} (h : s.converter.state.job = none) (k : Record) : s.isCurrent k = false := by
  simp only [State.isCurrent, h]

/-- There is one current job. -/
theorem isCurrent_ne {s : State} {j k : Record} (h : s.isCurrent k = true) (hj : j ≠ k) : s.isCurrent j = false := by
  cases hjob : s.converter.state.job with
  | none => exact isCurrent_of_jobless hjob j
  | some c =>
    rw [isCurrent_of_job hjob, beq_iff_eq] at h
    rw [isCurrent_of_job hjob, h, beq_eq_false_iff_ne]
    exact hj.symm

theorem kindsAgree_of_jobless {c : ConverterState} (h : c.job = none) : c.kindsAgree = true := by
  cases c with
  | idle => rfl
  | hold => rfl
  | supplyCheck j => rfl
  | referencePhase j => exact absurd h (Option.some_ne_none j)
  | sensorPhase j => exact absurd h (Option.some_ne_none j)

/-! ### LIVE points after a record is written -/

theorem isLive_congr {s t : State} (h : t.points = s.points) (p : Slot) : t.isLive p = s.isLive p := by
  simp only [State.isLive, h]

theorem isLive_set {s t : State} {p : Slot} {n : Option PointRecord} (h : t.points = s.points.set p n) (k : Slot) :
    t.isLive k = if k = p then n.any (fun r => r.state == .live) else s.isLive k := by
  simp only [State.isLive, h, getElem_setFin]
  split <;> rfl

theorem isLive_some {s : State} {p : Slot} {q : PointRecord} (h : s.points[p] = some q) :
    s.isLive p = (q.state == .live) := by
  simp only [State.isLive, h, Option.any_some]

theorem exists_of_isLive {s : State} {p : Slot} (h : s.isLive p = true) : ∃ q, s.points[p] = some q ∧ q.state = .live := by
  obtain ⟨q, hq, hl⟩ := (Option.any_eq_true _ _).mp h
  exact ⟨q, hq, beq_iff_eq.mp hl⟩

/-! ### One entry a record after a request -/

theorem entryIn_eq_none_iff (q : List QueueEntry) (k : Record) : entryIn q k = none ↔ k ∉ q.map QueueEntry.record := by
  simp [entryIn]

theorem EachOnce.placeEntry {q : List QueueEntry} {e : QueueEntry} (h : EachOnce q) (he : entryIn q e.record = none) :
    EachOnce (placeEntry e q) := by
  rw [EachOnce, ((placeEntry_perm e q).map QueueEntry.record).nodup_iff, List.map_cons, List.nodup_cons]
  exact ⟨(entryIn_eq_none_iff q e.record).mp he, h⟩

theorem EachOnce.removeFrom {q : List QueueEntry} (h : EachOnce q) (k : Record) : EachOnce (removeFrom q k) :=
  h.sublist (List.filter_sublist.map _)

theorem EachOnce.moveWithin {q : List QueueEntry} (h : EachOnce q) (k : Record) (due now : Clock) :
    EachOnce (moveWithin q k due now) := by
  unfold Machine.moveWithin
  split
  · exact (h.removeFrom k).placeEntry (entryIn_removeFrom_self q k)
  · exact h

theorem EachOnce.bringForward {q : List QueueEntry} (h : EachOnce q) (now : Clock) (p : Slot) :
    EachOnce (bringForward now q p) := by
  unfold Machine.bringForward
  split
  · split
    · exact h
    · exact h.moveWithin ..
  · exact h

theorem isSome_entryIn_moveWithin (q : List QueueEntry) (k : Record) (due now : Clock) (j : Record) :
    (entryIn (moveWithin q k due now) j).isSome = (entryIn q j).isSome := by
  by_cases hj : j = k
  · rw [hj, entryIn_moveWithin_self, Option.isSome_map]
  · rw [entryIn_moveWithin_ne q due now hj]

theorem isSome_entryIn_bringForward (now : Clock) (q : List QueueEntry) (p : Slot) (k : Record) :
    (entryIn (bringForward now q p) k).isSome = (entryIn q k).isSome := by
  by_cases hk : k = .point p
  · rw [hk, entryIn_bringForward_self, Option.isSome_map]
  · rw [entryIn_bringForward_ne now q hk]

/-- Falling due sets a mark and leaves the records in their places. -/
theorem map_record_markBoundary (now : Clock) (q : List QueueEntry) :
    (markBoundary now q).map QueueEntry.record = q.map QueueEntry.record := by
  induction q with
  | nil => rfl
  | cons e q ih =>
    unfold markBoundary
    split
    · rw [List.map_cons, List.map_cons, ih]
    · split <;> rfl

/-- A queue with the same records has entries of the same records. -/
theorem isSome_entryIn_of_records {q q' : List QueueEntry} (h : q'.map QueueEntry.record = q.map QueueEntry.record)
    (k : Record) : (entryIn q' k).isSome = (entryIn q k).isSome := by
  have hnone : entryIn q' k = none ↔ entryIn q k = none := by rw [entryIn_eq_none_iff, entryIn_eq_none_iff, h]
  rw [Bool.eq_iff_iff, Option.isSome_iff_ne_none, Option.isSome_iff_ne_none, ne_eq, hnone]

/-- A record without an entry in `q` gains one in `q'`, or, when the flag is clear, nothing changes. -/
inductive Gains (k : Record) (q : List QueueEntry) : Bool → List QueueEntry → Prop
  | nothing : Gains k q false q
  | inserted (due now : Clock) : Gains k q true (insertInto q k due now)
  | returned (due : Clock) : Gains k q true (returnInto q k due)

namespace Gains

variable {k : Record} {q q' : List QueueEntry} {w : Bool}

theorem of_if (h : Gains k q true q') (c : Prop) [Decidable c] : Gains k q (decide c) (if c then q' else q) := by
  by_cases hc : c
  · simpa [hc] using h
  · simpa [hc] using nothing

theorem eachOnce (h : Gains k q w q') (hn : entryIn q k = none) (ho : EachOnce q) : EachOnce q' := by
  cases h with
  | nothing => exact ho
  | inserted due now => exact insertInto_none hn due now ▸ ho.placeEntry hn
  | returned due => exact returnInto_none hn due ▸ ho.placeEntry hn

theorem others (h : Gains k q w q') {j : Record} (hj : j ≠ k) : entryIn q' j = entryIn q j := by
  cases h with
  | nothing => rfl
  | inserted due now => exact entryIn_insertInto_ne q due now hj
  | returned due => exact entryIn_returnInto_ne q due hj

theorem isSome (h : Gains k q w q') (hn : entryIn q k = none) : (entryIn q' k).isSome = w := by
  cases h with
  | nothing => rw [hn]; rfl
  | inserted due now => rw [entryIn_insertInto_self]; rfl
  | returned due => rw [entryIn_returnInto_self]; rfl

end Gains

/-! ### A part that agrees on every record but one -/

/-- The record `k` has no entry and is not the current job, and every other record fits: a job or an entry has been taken from its
record, which is not yet settled. -/
structure State.Released (u : State) (k : Record) : Prop where
  once : EachOnce u.queue
  others : ∀ j, j ≠ k → u.Fits j
  unqueued : entryIn u.queue k = none
  notCurrent : u.isCurrent k = false
  kinds : u.converter.state.kindsAgree = true

section
variable {s t u : State} {k : Record}

/-- A record without entry and job is released as it stands. -/
theorem released_of_free (h : s.ScheduleSound) (hq : s.queued k = false) (hc : s.isCurrent k = false) : s.Released k := by
  obtain ⟨honce, hfits, hkinds⟩ := (scheduleSound_iff s).mp h
  exact ⟨honce, fun j _ => hfits j, Option.not_isSome_iff_eq_none.mp (Bool.eq_false_iff.mp hq), hc, hkinds⟩

/-- The current job has no entry (R92). -/
theorem unqueued_of_current (h : s.ScheduleSound) (hc : s.isCurrent k = true) : entryIn s.queue k = none := by
  obtain ⟨-, hpoint, href, -⟩ := h
  cases k with
  | ref r => exact href r hc
  | point p => exact hpoint p hc

/-- The current job ends: its record is released by a converter without a job. -/
theorem released_of_current (h : s.ScheduleSound) (hc : s.isCurrent k = true) (hjob : u.converter.state.job = none)
    (hq : u.queue = s.queue) (hp : u.points = s.points) (hr : u.refs = s.refs) : u.Released k := by
  obtain ⟨honce, hfits, -⟩ := (scheduleSound_iff s).mp h
  have hqueued : ∀ j, u.queued j = s.queued j := fun j => by simp only [State.queued, State.entryOf, hq]
  refine ⟨hq ▸ honce, fun j hj => ?_, ?_, isCurrent_of_jobless hjob k, kindsAgree_of_jobless hjob⟩
  · exact (hfits j).congr (hqueued j) (by rw [isCurrent_of_jobless hjob, isCurrent_ne hc hj])
      (fun p _ => isLive_congr hp p) (fun r _ => by rw [hr])
  · rw [hq]
    exact unqueued_of_current h hc

/-- The entry of a record that is not the current job leaves the queue. -/
theorem released_of_removed (h : s.ScheduleSound) (hc : s.isCurrent k = false) : (s.removeEntry k).Released k := by
  obtain ⟨honce, hfits, hkinds⟩ := (scheduleSound_iff s).mp h
  refine ⟨honce.removeFrom k, fun j hj => ?_, entryIn_removeFrom_self s.queue k, hc, hkinds⟩
  exact (hfits j).congr (congrArg Option.isSome (entryIn_removeFrom_ne hj)) rfl (fun _ _ => rfl) (fun _ _ => rfl)

/-- A record leaves the converter and the queue (R84, R88). -/
theorem released_of_withdrawn (h : s.ScheduleSound) (k : Record) : ((s.abortJob k).removeEntry k).Released k := by
  rw [abortJob_eq]
  cases hc : s.isCurrent k with
  | false => exact released_of_removed h hc
  | true =>
    have hnone : removeFrom s.queue k = s.queue := removeFrom_none (unqueued_of_current h hc)
    exact released_of_current h hc rfl hnone rfl rfl

namespace State.Released

/-- The released record is settled, and the others stand. -/
theorem filled (h : u.Released k) (ho : EachOnce t.queue) (hq : ∀ j, j ≠ k → entryIn t.queue j = entryIn u.queue j)
    (hc : ∀ j, j ≠ k → t.isCurrent j = u.isCurrent j) (hl : ∀ p, .point p ≠ k → t.isLive p = u.isLive p)
    (hr : ∀ r : RefId, .ref r ≠ k → t.refs[r] = u.refs[r]) (hk : t.converter.state.kindsAgree = true) (hf : t.Fits k) :
    t.ScheduleSound := by
  refine (scheduleSound_iff t).mpr ⟨ho, fun j => ?_, hk⟩
  by_cases hj : j = k
  · exact hj ▸ hf
  · exact (h.others j hj).congr (congrArg Option.isSome (hq j hj)) (hc j hj) (fun p hp => hl p (hp ▸ hj))
      (fun r hr' => hr r (hr' ▸ hj))

/-- A released point is written, and gains an entry exactly when it is LIVE (R96). -/
theorem pointSettled {p : Slot} {n : Option PointRecord} (h : u.Released (.point p))
    (hg : Gains (.point p) u.queue (n.any fun r => r.state == .live) t.queue) (hp : t.points = u.points.set p n)
    (hr : t.refs = u.refs) (hc : t.converter = u.converter) : t.ScheduleSound := by
  have hcurrent : ∀ j, t.isCurrent j = u.isCurrent j := isCurrent_congr hc
  refine h.filled (hg.eachOnce h.unqueued h.once) (fun _ hj => hg.others hj) (fun j _ => hcurrent j) (fun k hk => ?_)
    (fun _ _ => by rw [hr]) (hc ▸ h.kinds) ⟨?_, fun htrue => ?_⟩
  · rw [isLive_set hp, if_neg fun hkp => hk (congrArg _ hkp)]
  · rw [hcurrent, h.notCurrent, isLive_set hp, if_pos rfl]
    exact hg.isSome h.unqueued
  · rw [hcurrent, h.notCurrent] at htrue
    exact absurd htrue Bool.false_ne_true

/-- A released reference is written, not CALIBRATING, and gains an entry exactly when it wants one (R97). -/
theorem refSettled {r : RefId} {n : Option RefRecord} (h : u.Released (.ref r))
    (hg : Gains (.ref r) u.queue (n.any RefRecord.wanted) t.queue) (hn : ∀ y ∈ n, y.state ≠ .calibrating ∧ y.prior = none)
    (hr : t.refs = u.refs.set r n) (hp : t.points = u.points) (hc : t.converter = u.converter) : t.ScheduleSound := by
  have hcurrent : ∀ j, t.isCurrent j = u.isCurrent j := isCurrent_congr hc
  have hrecord : t.refs[r] = n := by rw [hr, getElem_setFin, if_pos rfl]
  refine h.filled (hg.eachOnce h.unqueued h.once) (fun _ hj => hg.others hj) (fun j _ => hcurrent j)
    (fun p _ => isLive_congr hp p) (fun k hk => ?_) (hc ▸ h.kinds) ⟨?_, ?_, fun y hy => ?_⟩
  · rw [hr, getElem_setFin, if_neg fun hkr => hk (congrArg _ hkr)]
  · rw [hcurrent, h.notCurrent, hrecord]
    exact hg.isSome h.unqueued
  · rw [hcurrent, h.notCurrent, hrecord]
    cases n with
    | none => rfl
    | some y => exact (beq_eq_false_iff_ne.mpr (hn y rfl).1).symm
  · obtain ⟨hs, hprior⟩ := hn y (hrecord ▸ hy)
    simp [RefRecord.priorSound, hs, hprior]

/-- A released LIVE point becomes the current job (R66, R101). -/
theorem pointBegun {p : Slot} (h : u.Released (.point p)) (hi : u.converter.state.job = none) (hl : u.isLive p = true)
    {j : Job} (hj : j.record = .point p) : (u.beginJob j).ScheduleSound := by
  have hcurrent : ∀ k, (u.beginJob j).isCurrent k = (Record.point p == k) := fun k => hj ▸ isCurrent_of_job rfl k
  refine h.filled h.once (fun _ _ => rfl) (fun k hk => ?_) (fun _ _ => rfl) (fun _ _ => rfl) rfl ⟨?_, fun _ => hl⟩
  · rw [hcurrent, isCurrent_of_jobless hi]
    exact beq_eq_false_iff_ne.mpr hk.symm
  · rw [hcurrent, beq_self_eq_true]
    exact congrArg Option.isSome h.unqueued

/-- A released reference becomes CALIBRATING and the current job (R57, R66). -/
theorem refBegun {r : RefId} {x : RefRecord} (h : u.Released (.ref r)) (hi : u.converter.state.job = none)
    (hx : x.state ≠ .calibrating) {j : Job} (hj : j.record = .ref r) :
    ((u.setRef r (some (startedRef x))).beginJob j).ScheduleSound := by
  have hcurrent : ∀ k, ((u.setRef r (some (startedRef x))).beginJob j).isCurrent k = (Record.ref r == k) :=
    fun k => hj ▸ isCurrent_of_job rfl k
  have hrecord : ((u.setRef r (some (startedRef x))).beginJob j).refs[r] = some (startedRef x) := by
    simp only [State.beginJob, State.setConverter_refs, State.setRef_refs, getElem_setFin, if_true]
  refine h.filled h.once (fun _ _ => rfl) (fun k hk => ?_) (fun _ _ => rfl) (fun k hk => ?_) rfl
    ⟨?_, ?_, fun y hy => ?_⟩
  · rw [hcurrent, isCurrent_of_jobless hi]
    exact beq_eq_false_iff_ne.mpr hk.symm
  · simp only [State.beginJob, State.setConverter_refs, State.setRef_refs, getElem_setFin]
    exact if_neg fun hkr => hk (congrArg _ hkr)
  · rw [hcurrent, beq_self_eq_true]
    exact congrArg Option.isSome h.unqueued
  · rw [hcurrent, beq_self_eq_true, hrecord]
    rfl
  · obtain rfl := Option.some.inj (hrecord.symm.trans hy)
    exact ⟨rfl, fun he => hx (Option.some.inj he)⟩

end State.Released

end

end Sys2Proof.Machine

/-! SUPPORT. What keeps the agreement of queue, converter, points and references: writes of one record, and the counts of a reference. -/

namespace Sys2Proof.Machine

namespace State.ScheduleSound

variable {s t u : State} {p : Slot} {r : RefId}

/-! ### Changes that keep the agreement -/

/-- What is agreed on a defined reference (R92, R97, R47, R48). -/
theorem ref (h : s.ScheduleSound) {x : RefRecord} (hx : s.refs[r] = some x) :
    (entryIn s.queue (.ref r)).isSome = (!s.isCurrent (.ref r) && x.wanted) ∧
    s.isCurrent (.ref r) = (x.state == .calibrating) ∧ x.priorSound := by
  obtain ⟨-, hfits, -⟩ := (scheduleSound_iff s).mp h
  obtain ⟨hqueued, hcalibrating, hprior⟩ := hfits (.ref r)
  rw [hx] at hqueued hcalibrating hprior
  exact ⟨hqueued, hcalibrating, hprior x rfl⟩

theorem eachOnce (h : s.ScheduleSound) : EachOnce s.queue := ((scheduleSound_iff s).mp h).1

theorem kindsAgree (h : s.ScheduleSound) : s.converter.state.kindsAgree = true := ((scheduleSound_iff s).mp h).2.2

/-- A scheduled point is LIVE (R96). -/
theorem live (h : s.ScheduleSound) (hp : s.scheduled p) : s.isLive p = true := by
  obtain ⟨-, -, -, hlive, -⟩ := h
  rw [← hlive p]
  exact (Bool.or_eq_true _ _).mpr hp

/-- A point that is not LIVE has no entry and is not the current job (R96). -/
theorem released_of_not_live (h : s.ScheduleSound) (hl : s.isLive p = false) : s.Released (.point p) := by
  have hfree : ¬ s.scheduled p := fun hp => Bool.false_ne_true (hl.symm.trans (h.live hp))
  exact released_of_free h (Bool.eq_false_iff.mpr fun hq => hfree (.inl hq)) (Bool.eq_false_iff.mpr fun hc => hfree (.inr hc))

/-- The agreement reads which records have an entry, which is the current job, the LIVE points and the references. -/
theorem congr (h : s.ScheduleSound) (ho : EachOnce t.queue)
    (hq : ∀ k, (entryIn t.queue k).isSome = (entryIn s.queue k).isSome) (hl : ∀ p, t.isLive p = s.isLive p)
    (hr : t.refs = s.refs) (hc : ∀ k, t.isCurrent k = s.isCurrent k) (hk : t.converter.state.kindsAgree = true) :
    t.ScheduleSound := by
  obtain ⟨-, hfits, -⟩ := (scheduleSound_iff s).mp h
  exact (scheduleSound_iff t).mpr
    ⟨ho, fun k => (hfits k).congr (hq k) (hc k) (fun p _ => hl p) (fun r _ => by rw [hr]), hk⟩

/-- A part with the same queue, converter, points and references. -/
theorem same (h : s.ScheduleSound) (hq : t.queue = s.queue) (hp : t.points = s.points) (hr : t.refs = s.refs)
    (hc : t.converter = s.converter) : t.ScheduleSound := by
  exact h.congr (hq ▸ h.eachOnce) (fun k => by rw [hq]) (isLive_congr hp) hr (isCurrent_congr hc) (hc ▸ h.kindsAgree)

/-- The queue is reordered and its entries moved, with no record gaining or losing its entry. -/
theorem requeued (h : s.ScheduleSound) {q : List QueueEntry} (ho : EachOnce q)
    (hq : ∀ k, (entryIn q k).isSome = (entryIn s.queue k).isSome) : (s.setQueue q).ScheduleSound :=
  h.congr ho hq (fun _ => rfl) rfl (fun _ => rfl) h.kindsAgree

/-- The converter goes on with the job that it has. -/
theorem jobKept (h : s.ScheduleSound) {c : Converter} (hj : c.state.job = s.converter.state.job)
    (hk : c.state.kindsAgree = true) : (s.setConverter c).ScheduleSound :=
  h.congr h.eachOnce (fun _ => rfl) (fun _ => rfl) rfl
    (fun k => by simp only [State.isCurrent, State.setConverter_converter, hj]) hk

/-- A slot is written that holds a LIVE point as before, or none as before. -/
theorem livenessKept (h : s.ScheduleSound) {n : Option PointRecord} (hp : t.points = s.points.set p n)
    (hn : n.any (fun q => q.state == .live) = s.isLive p) (hq : t.queue = s.queue) (hr : t.refs = s.refs)
    (hc : t.converter = s.converter) : t.ScheduleSound := by
  refine h.congr (hq ▸ h.eachOnce) (fun k => by rw [hq]) (fun k => ?_) hr (isCurrent_congr hc) (hc ▸ h.kindsAgree)
  rw [isLive_set hp]
  split
  · next hk => rw [hn, hk]
  · rfl

/-- A point is written that keeps its state. -/
theorem pointRewritten (h : s.ScheduleSound) {q n : PointRecord} (hq : s.points[p] = some q)
    (hp : t.points = s.points.set p (some n)) (hn : n.state = q.state) (hqueue : t.queue = s.queue) (hr : t.refs = s.refs)
    (hc : t.converter = s.converter) : t.ScheduleSound :=
  h.livenessKept hp (by rw [isLive_some hq, Option.any_some, hn]) hqueue hr hc

/-- A reference is written that stays CALIBRATING or not, and that wants an entry as before unless it is the current job; the
records that have an entry keep one. -/
theorem refRewritten (h : s.ScheduleSound) {x y : RefRecord} (hx : s.refs[r] = some x)
    (hr : t.refs = s.refs.set r (some y)) (hw : s.isCurrent (.ref r) = true ∨ y.wanted = x.wanted)
    (hs : (y.state == .calibrating) = (x.state == .calibrating)) (hprior : y.prior = x.prior) (hp : t.points = s.points)
    (hc : t.converter = s.converter) (ho : EachOnce t.queue)
    (hq : ∀ k, (entryIn t.queue k).isSome = (entryIn s.queue k).isSome) : t.ScheduleSound := by
  obtain ⟨-, hfits, hkinds⟩ := (scheduleSound_iff s).mp h
  refine (scheduleSound_iff t).mpr ⟨ho, fun k => ?_, hc ▸ hkinds⟩
  have hcurrent := isCurrent_congr hc
  by_cases hk : k = .ref r
  · obtain ⟨hqueued, hcalibrating, hpriorSound⟩ := h.ref hx
    have hrecord : t.refs[r] = some y := by rw [hr, getElem_setFin, if_pos rfl]
    subst hk
    refine ⟨(hq _).trans ?_, ?_, fun z hz => ?_⟩
    · rw [hcurrent, hrecord, hqueued]
      rcases hw with hw | hw
      · rw [hw]; rfl
      · rw [Option.any_some, hw]
    · rw [hcurrent, hrecord, Option.any_some, hs, hcalibrating]
    · obtain rfl := Option.some.inj (hrecord.symm.trans hz)
      rw [RefRecord.priorSound, hs, hprior]
      exact hpriorSound
  · refine (hfits k).congr (hq k) (hcurrent k) (fun p _ => isLive_congr hp p) fun j hj => ?_
    rw [hr, getElem_setFin, if_neg fun hjr => hk (hj ▸ congrArg _ hjr)]

/-- A reference is written that keeps what the agreement reads of it. -/
theorem refKept (h : s.ScheduleSound) {x y : RefRecord} (hx : s.refs[r] = some x) (hr : t.refs = s.refs.set r (some y))
    (hw : y.wanted = x.wanted) (hs : (y.state == .calibrating) = (x.state == .calibrating)) (hprior : y.prior = x.prior)
    (hp : t.points = s.points) (hc : t.converter = s.converter) (hq : t.queue = s.queue) : t.ScheduleSound :=
  h.refRewritten hx hr (.inr hw) hs hprior hp hc (hq ▸ h.eachOnce) fun k => by rw [hq]

/-- Without an entry, a defined reference that is not the current job is released as it stands, settled and unwanted. -/
theorem ref_released (h : s.ScheduleSound) {x : RefRecord} (hx : s.refs[r] = some x) (hc : s.isCurrent (.ref r) = false)
    (he : entryIn s.queue (.ref r) = none) : s.Released (.ref r) ∧ x.wanted = false := by
  obtain ⟨hqueued, -⟩ := h.ref hx
  rw [he, hc] at hqueued
  exact ⟨released_of_free h (congrArg Option.isSome he) hc, hqueued.symm⟩

/-- A reference that is not the current job is not CALIBRATING, and has no prior state (R47, R48). -/
theorem ref_not_current (h : s.ScheduleSound) {x : RefRecord} (hx : s.refs[r] = some x) (hc : s.isCurrent (.ref r) = false) :
    x.state ≠ .calibrating ∧ x.prior = none := by
  obtain ⟨-, hcalibrating, hiff, -⟩ := h.ref hx
  rw [← hcalibrating, hc] at hiff
  exact ⟨beq_eq_false_iff_ne.mp (hcalibrating.symm.trans hc), Option.not_isSome_iff_eq_none.mp (Bool.eq_false_iff.mp hiff.symm)⟩

/-! ### The counts of a reference (R50, R98) -/

theorem gainUser (h : s.ScheduleSound) (r : RefId) : (s.gainUser r).ScheduleSound := by
  cases hx : s.refs[r] with
  | none => simpa only [State.gainUser, hx] using h
  | some x => exact gainUser_some hx ▸ h.refKept (y := { x with users := x.users + 1 }) hx rfl rfl rfl rfl rfl rfl rfl

theorem loseUser (h : s.ScheduleSound) (r : RefId) : (s.loseUser r).ScheduleSound := by
  cases hx : s.refs[r] with
  | none => simpa only [State.loseUser, hx] using h
  | some x => exact loseUser_some hx ▸ h.refKept (y := { x with users := x.users - 1 }) hx rfl rfl rfl rfl rfl rfl rfl

/-- A reference with its first live user gains its entry, unless it has one for a request or is the current job. -/
theorem gainLiveUser (h : s.ScheduleSound) (r : RefId) : (s.gainLiveUser r).ScheduleSound := by
  cases hx : s.refs[r] with
  | none => simpa only [State.gainLiveUser, hx] using h
  | some x =>
    obtain ⟨hqueued, -⟩ := h.ref hx
    have hwanted : RefRecord.wanted { x with liveUsers := x.liveUsers + 1 } = true := by simp [RefRecord.wanted]
    rw [gainLiveUser_some hx]
    cases hc : s.isCurrent (.ref r) with
    | true =>
      rw [if_neg fun hfirst => Bool.false_ne_true hfirst.2.symm]
      exact h.refRewritten hx rfl (.inl hc) rfl rfl rfl rfl h.eachOnce fun _ => rfl
    | false =>
      cases he : entryIn s.queue (.ref r) with
      | some e =>
        rw [he, hc] at hqueued
        rw [insertInto_some he, ite_self]
        exact h.refKept hx rfl (hwanted.trans hqueued) rfl rfl rfl rfl rfl
      | none =>
        obtain ⟨hreleased, hunwanted⟩ := h.ref_released hx hc he
        obtain ⟨hnot, hprior⟩ := h.ref_not_current hx hc
        have hfirst : x.liveUsers = 0 := by
          rw [RefRecord.wanted, Bool.or_eq_false_iff] at hunwanted
          simpa using hunwanted.1
        rw [if_pos ⟨hfirst, rfl⟩]
        refine hreleased.refSettled (n := some { x with liveUsers := x.liveUsers + 1 }) ?_ ?_ rfl rfl rfl
        · rw [Option.any_some, hwanted]
          exact .inserted ..
        · rintro y ⟨⟩
          exact ⟨hnot, hprior⟩

/-- A reference loses its entry with its last live user, unless a request is outstanding. -/
theorem loseLiveUser (h : s.ScheduleSound) (r : RefId) : (s.loseLiveUser r).ScheduleSound := by
  cases hx : s.refs[r] with
  | none => simpa only [State.loseLiveUser, hx] using h
  | some x =>
    rw [loseLiveUser_some hx]
    cases hc : s.isCurrent (.ref r) with
    | true =>
      rw [removeFrom_none (unqueued_of_current h hc), ite_self]
      exact h.refRewritten hx rfl (.inl hc) rfl rfl rfl rfl h.eachOnce fun _ => rfl
    | false =>
      by_cases hlast : x.liveUsers = 1 ∧ x.request = false
      · obtain ⟨hnot, hprior⟩ := h.ref_not_current hx hc
        rw [if_pos hlast]
        refine (released_of_removed h hc).refSettled (n := some { x with liveUsers := x.liveUsers - 1 }) ?_ ?_ rfl rfl rfl
        · have hunwanted : RefRecord.wanted { x with liveUsers := x.liveUsers - 1 } = false := by
            simp [RefRecord.wanted, hlast]
          rw [Option.any_some, hunwanted]
          exact .nothing
        · rintro y ⟨⟩
          exact ⟨hnot, hprior⟩
      · rw [if_neg hlast]
        refine h.refKept (y := { x with liveUsers := x.liveUsers - 1 }) hx rfl ?_ rfl rfl rfl rfl rfl
        cases hrequest : x.request with
        | true => simp only [RefRecord.wanted, hrequest, Bool.or_true]
        | false =>
          have hmore : x.liveUsers ≠ 1 := fun hone => hlast ⟨hone, hrequest⟩
          simp only [RefRecord.wanted, hrequest, Bool.or_false]
          exact decide_eq_decide.mpr (by omega)

end State.ScheduleSound

end Sys2Proof.Machine

/-! SUPPORT. Every row keeps the agreement of queue, converter, points and references (R92, R96, R97, R47, R48). -/

namespace Sys2Proof.Machine

/-- The live users of a reference and the record of a slot are written one without the other. -/
theorem loseLiveUser_setPoint (s : State) (r : RefId) (p : Slot) (n : Option PointRecord) :
    (s.loseLiveUser r).setPoint p n = (s.setPoint p n).loseLiveUser r := by
  cases hx : s.refs[r] with
  | none => simp only [State.loseLiveUser, State.setPoint_refs, hx]
  | some x =>
    rw [loseLiveUser_some hx, loseLiveUser_some (s := s.setPoint p n) hx]
    rfl

namespace State.ScheduleSound

variable {s t u : State} {p : Slot} {r : RefId}

/-! ### The point commands -/

theorem setTag (h : s.ScheduleSound) (p : Slot) (tag : Option Half) : (s.setTag p tag).ScheduleSound := h.same rfl rfl rfl rfl

/-- A vacant slot is filled with a DORMANT point (R9). -/
theorem fillSlot (h : s.ScheduleSound) (hv : s.points[p] = none) (f : PointFields) (source : Byte) :
    (s.fillSlot p (definedRecord f source)).ScheduleSound := by
  have hlive : s.isLive p = false := by simp only [State.isLive, hv, Option.any_none]
  have hfilled : ((s.setPoint p (some (definedRecord f source))).setTag p (some f.tag)).ScheduleSound :=
    h.livenessKept rfl hlive.symm rfl rfl rfl
  exact (hfilled.gainUser _).same (bindChannel_queue ..) (bindChannel_points ..) (bindChannel_refs ..)
    (bindChannel_converter ..)

theorem amendSlot (h : s.ScheduleSound) {q : PointRecord} (hq : s.points[p] = some q) (mask : Half) (f : PointFields) :
    (s.amendSlot p q (amendedRecord mask f q)).ScheduleSound := by
  have hwritten : ∀ t : State, t.points = s.points.set p (some (amendedRecord mask f q)) → t.queue = s.queue →
      t.refs = s.refs → t.converter = s.converter → t.ScheduleSound := fun t hp => h.pointRewritten hq hp rfl
  unfold State.amendSlot
  dsimp only
  split
  · refine ((hwritten _ ?_ ?_ ?_ ?_).loseUser _).gainUser _
    · simp [apply_ite State.points, State.leavePoint]
    · simp [apply_ite State.queue, State.leavePoint]
    · simp [apply_ite State.refs, State.leavePoint]
    · simp [apply_ite State.converter, State.leavePoint]
  · refine hwritten _ ?_ ?_ ?_ ?_
    · simp [apply_ite State.points, State.leavePoint]
    · simp [apply_ite State.queue, State.leavePoint]
    · simp [apply_ite State.refs, State.leavePoint]
    · simp [apply_ite State.converter, State.leavePoint]

theorem requestLevel (h : s.ScheduleSound) (b : Option ChannelId) (a : Alarm) : (s.requestLevel b a).ScheduleSound :=
  h.same (requestLevel_queue ..) (requestLevel_points ..) (requestLevel_refs ..) (requestLevel_converter ..)

/-- A point that goes LIVE gains its entry, and its reference a live user (R17). -/
theorem start (h : s.ScheduleSound) {q : PointRecord} (hq : s.points[p] = some q) (hl : (q.state != .live) = true) :
    (s.start p q).ScheduleSound := by
  have hnot : s.isLive p = false := by rw [isLive_some hq, beq_eq_false_iff_ne]; exact bne_iff_ne.mp hl
  refine (gainLiveUser ?_ _).requestLevel _ _
  exact (h.released_of_not_live hnot).pointSettled (.inserted ..) rfl rfl rfl

/-- A LIVE point that is stopped leaves the converter and the queue, and its reference loses a live user (R18). -/
theorem stopLive (h : s.ScheduleSound) (p : Slot) (q : PointRecord) : (s.stopLive p q).ScheduleSound := by
  refine (loseLiveUser ?_ _).requestLevel _ _
  exact (released_of_withdrawn h (.point p)).pointSettled .nothing rfl rfl rfl

/-- A slot becomes VACANT once its point has left the converter and the queue (R20). -/
theorem retire (h : s.ScheduleSound) {q : PointRecord} (hq : s.points[p] = some q) : (s.retire p q).ScheduleSound := by
  have hvacated : ((if q.state == .live then (s.withdraw p).loseLiveUser q.reference else s).setPoint p none).ScheduleSound := by
    cases hl : q.state == .live with
    | true =>
      rw [if_pos rfl, loseLiveUser_setPoint]
      refine loseLiveUser ?_ _
      exact (released_of_withdrawn h (.point p)).pointSettled .nothing rfl rfl rfl
    | false =>
      refine h.livenessKept rfl ?_ rfl rfl rfl
      rw [isLive_some hq, hl]
      rfl
  exact ((hvacated.setTag p none).loseUser _).same (unbindChannel_queue ..) (unbindChannel_points ..) (unbindChannel_refs ..)
    (unbindChannel_converter ..)

theorem moveOwner (h : s.ScheduleSound) {q : PointRecord} (hq : s.points[p] = some q) (owner : Byte) :
    (s.moveOwner p q owner).ScheduleSound := by
  rw [moveOwner_eq]
  exact h.pointRewritten hq rfl rfl rfl rfl rfl

/-! ### The reference commands -/

/-- A newly defined reference has no live users and no request (R53). -/
theorem defineRef (h : s.ScheduleSound) (hv : s.refs[r] = none) (source isOpen excitation : Byte) (span recal : Half) :
    (s.setRef r (some (definedRef source isOpen excitation span recal))).ScheduleSound := by
  obtain ⟨-, hfits, -⟩ := (scheduleSound_iff s).mp h
  obtain ⟨hqueued, hcurrent, -⟩ := hfits (.ref r)
  rw [hv] at hqueued hcurrent
  rw [hcurrent] at hqueued
  refine (released_of_free h hqueued hcurrent).refSettled (n := some (definedRef source isOpen excitation span recal))
    .nothing ?_ rfl rfl rfl
  rintro y ⟨⟩
  exact ⟨RefState.noConfusion, rfl⟩

/-- An amendment makes UNCAL only what was VALID or FAULTED (R55). -/
theorem amendedRef_calibrating (mask isOpen excitation : Byte) (span recal : Half) (x : RefRecord) :
    ((amendedRef mask isOpen excitation span recal x).state == .calibrating) = (x.state == .calibrating) := by
  by_cases hc : x.state = .calibrating
  · simp [amendedRef, hc]
  · have hstate : (amendedRef mask isOpen excitation span recal x).state = .uncal ∨
        (amendedRef mask isOpen excitation span recal x).state = x.state := by
      rw [amendedRef_eq]
      exact ite_eq_or_eq _ _ _
    rcases hstate with he | he
    · rw [he, beq_eq_false_iff_ne.mpr hc]
      rfl
    · rw [he]

theorem amendRef (h : s.ScheduleSound) {x : RefRecord} (hx : s.refs[r] = some x) (mask isOpen excitation : Byte)
    (span recal : Half) : (s.setRef r (some (amendedRef mask isOpen excitation span recal x))).ScheduleSound := by
  refine h.refKept hx rfl ?_ (amendedRef_calibrating ..) ?_ rfl rfl rfl
  · simp [RefRecord.wanted, amendedRef, apply_ite RefRecord.liveUsers, apply_ite RefRecord.request]
  · simp [amendedRef, apply_ite RefRecord.prior]

/-- A requested reference has an entry afterwards (R56, R97). -/
theorem callCalibration (h : s.ScheduleSound) {x : RefRecord} (hx : s.refs[r] = some x)
    (hn : (x.state != .calibrating) = true) :
    ((s.setRef r (some { x with request := true })).callCalibration r).ScheduleSound := by
  obtain ⟨hqueued, hcalibrating, -⟩ := h.ref hx
  have hc : s.isCurrent (.ref r) = false := hcalibrating.trans (beq_eq_false_iff_ne.mpr (bne_iff_ne.mp hn))
  obtain ⟨hnot, hprior⟩ := h.ref_not_current hx hc
  have hwanted : RefRecord.wanted { x with request := true } = true := Bool.or_true _
  cases he : entryIn s.queue (.ref r) with
  | some e =>
    rw [he, hc] at hqueued
    have hset : (s.setRef r (some { x with request := true })).ScheduleSound :=
      h.refKept hx rfl (hwanted.trans hqueued) rfl rfl rfl rfl rfl
    simp only [State.callCalibration, State.entryOf, State.setRef_queue, he]
    split
    · exact hset.requeued (hset.eachOnce.moveWithin ..) fun _ => isSome_entryIn_moveWithin ..
    · exact hset
  | none =>
    obtain ⟨hreleased, -⟩ := h.ref_released hx hc he
    simp only [State.callCalibration, State.entryOf, State.setRef_queue, he]
    refine hreleased.refSettled (n := some { x with request := true }) ?_ ?_ rfl rfl rfl
    · rw [Option.any_some, hwanted]
      exact .inserted ..
    · rintro y ⟨⟩
      exact ⟨hnot, hprior⟩

theorem emptyRef (h : s.ScheduleSound) (r : RefId) : (s.emptyRef r).ScheduleSound :=
  (released_of_withdrawn h (.ref r)).refSettled .nothing (by simp) rfl rfl rfl

/-! ### The commands of the due queue and of the device -/

theorem bringForward (h : s.ScheduleSound) (p : Slot) :
    (s.setQueue (bringForward s.clock s.queue p)).ScheduleSound :=
  h.requeued (h.eachOnce.bringForward ..) fun _ => isSome_entryIn_bringForward ..

theorem allBroughtForward (h : s.ScheduleSound) (slots : List Slot) :
    (s.setQueue (slots.foldl (Machine.bringForward s.clock) s.queue)).ScheduleSound := by
  induction slots generalizing s with
  | nil => exact h
  | cons p slots ih => exact ih (h.bringForward p)

theorem noticesRead (h : s.ScheduleSound) (source : Byte) : (s.noticesRead source).ScheduleSound := by
  unfold State.noticesRead
  exact h.same rfl rfl rfl rfl

/-- Empty tables and an IDLE converter (R172, R173). -/
theorem cleared (hq : t.queue = []) (hp : t.points = Vector.replicate 48 none) (hr : t.refs = Vector.replicate 4 none)
    (hc : t.converter = Converter.reset) : t.ScheduleSound := by
  have hjob : t.converter.state.job = none := by rw [hc]; rfl
  refine (scheduleSound_iff t).mpr ⟨hq ▸ List.nodup_nil, fun k => ?_, kindsAgree_of_jobless hjob⟩
  cases k with
  | ref r => simp [State.Fits, State.queued, State.entryOf, entryIn, hq, hr, isCurrent_of_jobless hjob]
  | point p => simp [State.Fits, State.queued, State.entryOf, entryIn, State.isLive, hq, hp, isCurrent_of_jobless hjob]

/-! ### The timed fields of a point -/

theorem announce (h : s.ScheduleSound) (p : Slot) (q : PointRecord) (a : Alarm) : (s.announce p q a).ScheduleSound :=
  h.same (announce_queue ..) (announce_points ..) (announce_refs ..) (announce_converter ..)

theorem expireDeadline (h : s.ScheduleSound) (p : Slot) : (s.expireDeadline p).ScheduleSound := by
  unfold State.expireDeadline
  split
  · next q hq =>
    split
    · split
      · exact h.pointRewritten hq rfl rfl rfl rfl rfl
      · have hstale : (s.setPoint p (some { q with quality := .stale, alarm := .fault, deadline := none })).ScheduleSound :=
          h.pointRewritten hq rfl rfl rfl rfl rfl
        exact hstale.announce ..
    · exact h
  · exact h

theorem expireOffer (h : s.ScheduleSound) (p : Slot) : (s.expireOffer p).ScheduleSound := by
  unfold State.expireOffer
  split
  · next q hq =>
    split
    · dsimp only
      split <;> exact h.pointRewritten hq rfl rfl rfl rfl rfl
    · exact h
  · exact h

theorem expireLocate (h : s.ScheduleSound) (p : Slot) : (s.expireLocate p).ScheduleSound := by
  unfold State.expireLocate
  split
  · next q hq =>
    split
    · exact h.pointRewritten hq rfl rfl rfl rfl rfl
    · exact h
  · exact h

/-! ### The outcomes of a job -/

/-- A measured LIVE point gains its next entry (R113). -/
theorem evaluateMeasurement (h : u.Released (.point p)) (hl : u.isLive p = true) (start : Clock) (v : Half) (g : Quality) :
    (u.evaluateMeasurement p start v g).ScheduleSound := by
  obtain ⟨q, hq, hlive⟩ := exists_of_isLive hl
  have hinserted : ((u.setPoint p (some (measuredRecord q v g u.clock))).insertEntry (.point p)
      (start + intervalMs q.interval)).ScheduleSound := by
    refine h.pointSettled (n := some (measuredRecord q v g u.clock)) ?_ rfl rfl rfl
    have hstays : (measuredRecord q v g u.clock).state = .live := hlive
    rw [Option.any_some, hstays]
    exact .inserted ..
  simp only [State.evaluateMeasurement, hq]
  split
  · exact hinserted.announce ..
  · exact hinserted

/-- A LIVE point with a fault outcome gains its next entry, or becomes HELD and leaves the live users of its reference (R120). -/
theorem evaluateFault (h : u.Released (.point p)) (hl : u.isLive p = true) (start : Clock) (g : Quality) :
    (u.evaluateFault p start g).ScheduleSound := by
  obtain ⟨q, hq, hlive⟩ := exists_of_isLive hl
  have hsettled : (if reachesLimit q then (u.setPoint p (some (faultedRecord q g))).loseLiveUser q.reference
      else (u.setPoint p (some (faultedRecord q g))).insertEntry (.point p) (start + intervalMs q.interval)).ScheduleSound := by
    cases hlimit : reachesLimit q with
    | true =>
      have hheld : (faultedRecord q g).state = .held := if_pos hlimit
      refine loseLiveUser (h.pointSettled (t := u.setPoint p _) (n := some (faultedRecord q g)) ?_ rfl rfl rfl) _
      rw [Option.any_some, hheld]
      exact .nothing
    | false =>
      have hstays : (faultedRecord q g).state = .live := by simp [faultedRecord, hlimit, hlive]
      refine h.pointSettled (n := some (faultedRecord q g)) ?_ rfl rfl rfl
      rw [Option.any_some, hstays]
      exact .inserted ..
  simp only [State.evaluateFault, hq]
  split
  · exact hsettled.announce ..
  · exact hsettled

/-- A calibrated reference gains its next entry for live users (R58). -/
theorem applyCount (h : u.Released (.ref r)) {x : RefRecord} (hx : u.refs[r] = some x) (n : BitVec 22) :
    (u.applyCount r n).ScheduleSound := by
  rw [applyCount_some hx]
  refine h.refSettled (n := some (calibratedRef x n u.clock)) ?_ ?_ rfl rfl rfl
  · simpa [RefRecord.wanted, calibratedRef] using (Gains.inserted _ _).of_if (0 < x.liveUsers)
  · rintro y ⟨⟩
    exact ⟨RefState.noConfusion, rfl⟩

/-- A failed reference gains its retry for live users (R59). -/
theorem applyRefFault (h : u.Released (.ref r)) {x : RefRecord} (hx : u.refs[r] = some x) (f : RefFault) :
    (u.applyRefFault r f).ScheduleSound := by
  rw [applyRefFault_some hx]
  refine h.refSettled (n := some (failedRef x f u.clock)) ?_ ?_ rfl rfl rfl
  · simpa [RefRecord.wanted, failedRef] using (Gains.inserted _ _).of_if (0 < x.liveUsers)
  · rintro y ⟨⟩
    exact ⟨RefState.noConfusion, rfl⟩

/-- A reference returned unrun stands in its prior state, with its entry for live users or a request (R60). -/
theorem returnRef (h : u.Released (.ref r)) {x : RefRecord} (hx : u.refs[r] = some x) (hs : x.state = .calibrating)
    (hprior : x.priorSound) (due : Clock) : (u.returnRef r due).ScheduleSound := by
  rw [returnRef_some hx]
  refine h.refSettled (n := some (restoredRef x)) ?_ ?_ rfl rfl rfl
  · simpa [RefRecord.wanted, restoredRef] using (Gains.returned due).of_if (0 < x.liveUsers ∨ x.request = true)
  · rintro y ⟨⟩
    obtain ⟨hiff, hne⟩ := hprior
    rw [hs] at hiff
    obtain ⟨z, hz⟩ := Option.isSome_iff_exists.mp hiff.symm
    refine ⟨fun he => hne ?_, rfl⟩
    rw [hz]
    rw [restoredRef, hz] at he
    exact congrArg some he

/-! ### The events of the converter -/

/-- The reference of the current job is defined and CALIBRATING, with a prior state (R47, R48). -/
theorem ref_current (h : s.ScheduleSound) (hc : s.isCurrent (.ref r) = true) :
    ∃ x, s.refs[r] = some x ∧ x.state = .calibrating ∧ x.priorSound := by
  obtain ⟨-, hfits, -⟩ := (scheduleSound_iff s).mp h
  obtain ⟨-, hcalibrating, hprior⟩ := hfits (.ref r)
  rw [hc] at hcalibrating
  obtain ⟨x, hx, hs⟩ := (Option.any_eq_true _ _).mp hcalibrating.symm
  exact ⟨x, hx, beq_iff_eq.mp hs, hprior x hx⟩

/-- A reference phase has a reference job (R64). -/
theorem referencePhase_record (h : s.ScheduleSound) {j : Job} (hs : s.converter.state = .referencePhase j) :
    ∃ r, j.record = .ref r ∧ s.isCurrent (.ref r) = true := by
  have hkinds := h.kindsAgree
  rw [hs] at hkinds
  have hjob : s.converter.state.job = some j := by rw [hs]; rfl
  cases hj : j.record with
  | ref r => exact ⟨r, rfl, by rw [isCurrent_of_job hjob, hj, beq_self_eq_true]⟩
  | point p => simp [ConverterState.kindsAgree, hj] at hkinds

/-- A sensor phase has a point job (R64). -/
theorem sensorPhase_record (h : s.ScheduleSound) {j : Job} (hs : s.converter.state = .sensorPhase j) :
    ∃ p, j.record = .point p ∧ s.isCurrent (.point p) = true := by
  have hkinds := h.kindsAgree
  rw [hs] at hkinds
  have hjob : s.converter.state.job = some j := by rw [hs]; rfl
  cases hj : j.record with
  | ref r => simp [ConverterState.kindsAgree, hj] at hkinds
  | point p => exact ⟨p, rfl, by rw [isCurrent_of_job hjob, hj, beq_self_eq_true]⟩

/-- The end of a phase releases the record of its job. -/
theorem endPhase (h : s.ScheduleSound) {k : Record} (hc : s.isCurrent k = true) : s.endPhase.Released k :=
  released_of_current h hc rfl rfl rfl rfl

theorem sensorOverflow (h : s.ScheduleSound) (frequency : Nat) : (s.sensorOverflow frequency).ScheduleSound := by
  cases hs : s.converter.state with
  | sensorPhase j =>
    obtain ⟨p, hj, hc⟩ := h.sensorPhase_record hs
    rcases Nat.lt_or_ge 262143 (windowCount j.excitation j.window frequency) with hover | hin
    · rw [sensorOverflow_point hs hj hover]
      exact evaluateFault (h.endPhase hc) (h.live (.inr hc)) ..
    · rw [sensorOverflow_within hs hin]
      exact h
  | _ => simpa only [State.sensorOverflow, hs] using h

theorem windowEnd (h : s.ScheduleSound) (frequency : Nat) : (s.windowEnd frequency).ScheduleSound := by
  cases hs : s.converter.state with
  | sensorPhase j =>
    obtain ⟨p, hj, hc⟩ := h.sensorPhase_record hs
    rcases Nat.lt_or_ge 262143 (windowCount j.excitation j.window frequency) with hover | hin
    · rw [windowEnd_beyond hs hover]
      exact h
    · rw [windowEnd_point hs hj hin]
      split
      · exact evaluateFault (h.endPhase hc) (h.live (.inr hc)) ..
      · exact evaluateMeasurement (h.endPhase hc) (h.live (.inr hc)) ..
  | _ => simpa only [State.windowEnd, hs] using h

theorem countComplete (h : s.ScheduleSound) (frequency : Nat) : (s.countComplete frequency).ScheduleSound := by
  cases hs : s.converter.state with
  | referencePhase j =>
    obtain ⟨r, hj, hc⟩ := h.referencePhase_record hs
    obtain ⟨x, hx, -⟩ := h.ref_current hc
    cases hin : countsInTime j frequency with
    | true =>
      rw [countComplete_ref hs hj hin]
      split
      · exact applyCount (h.endPhase hc) hx _
      · exact applyRefFault (h.endPhase hc) hx _
    | false =>
      rw [countComplete_late hs hin]
      exact h
  | _ => simpa only [State.countComplete, hs] using h

theorem timeBaseLimit (h : s.ScheduleSound) (frequency : Nat) : (s.timeBaseLimit frequency).ScheduleSound := by
  cases hs : s.converter.state with
  | referencePhase j =>
    obtain ⟨r, hj, hc⟩ := h.referencePhase_record hs
    obtain ⟨x, hx, -⟩ := h.ref_current hc
    cases hin : countsInTime j frequency with
    | true =>
      rw [timeBaseLimit_early hs hin]
      exact h
    | false =>
      rw [timeBaseLimit_ref hs hj hin]
      exact applyRefFault (h.endPhase hc) hx _
  | _ => simpa only [State.timeBaseLimit, hs] using h

/-- A passed check leads to the phase of the kind of the job (R69). -/
theorem enterPhase (h : s.ScheduleSound) {j : Job} (hs : s.converter.state = .supplyCheck j) :
    (s.enterPhase j).ScheduleSound := by
  unfold State.enterPhase
  split
  · next r hj => exact h.jobKept (by rw [hs]; rfl) (by simp only [ConverterState.kindsAgree, hj])
  · next p hj => exact h.jobKept (by rw [hs]; rfl) (by simp only [ConverterState.kindsAgree, hj])

/-- A failed check releases the record of the job and returns it (R70). -/
theorem returnUnrun (h : s.ScheduleSound) {j : Job} (hs : s.converter.state = .supplyCheck j) :
    (s.returnUnrun j).ScheduleSound := by
  have hjob : s.converter.state.job = some j := by rw [hs]; rfl
  have hc : s.isCurrent j.record = true := by rw [isCurrent_of_job hjob, beq_self_eq_true]
  have hreleased : (s.setConverter { s.converter with state := .hold }).Released j.record :=
    released_of_current h hc rfl rfl rfl rfl
  unfold State.returnUnrun
  dsimp only
  split
  · next r hj =>
    rw [hj] at hc hreleased
    obtain ⟨x, hx, hcal, hprior⟩ := h.ref_current hc
    exact (returnRef hreleased hx hcal hprior j.due).same rfl rfl rfl rfl
  · next p hj =>
    rw [hj] at hc hreleased
    obtain ⟨q, hq, hl⟩ := exists_of_isLive (h.live (.inr hc))
    have hstays : (some q).any (fun q => q.state == .live) = true := beq_iff_eq.mpr hl
    have hkept : s.points = s.points.set p (some q) := by rw [← hq, Fin.getElem_fin, Vector.set_getElem_self]
    refine hreleased.pointSettled (n := some q) ?_ hkept rfl rfl
    rw [hstays]
    exact .returned j.due

theorem latchSupply (h : s.ScheduleSound) (vdda : Nat) : (s.latchSupply vdda).ScheduleSound := by
  unfold State.latchSupply
  split
  · next j hs =>
    split
    · exact h.enterPhase hs
    · exact h.returnUnrun hs
  · exact h

theorem endHold (h : s.ScheduleSound) : s.endHold.ScheduleSound := by
  unfold State.endHold
  split
  · next hs => exact h.jobKept (by rw [hs]; rfl) rfl
  · exact h

/-! ### Dispatch -/

/-- A reference is handed over by an IDLE converter (R57, R101, R102). -/
theorem handRef (h : s.ScheduleSound) (hi : s.converter.state = .idle) {x : RefRecord} (hx : s.refs[r] = some x)
    (due : Clock) : (s.handRef r x due).ScheduleSound := by
  have hjob : s.converter.state.job = none := by rw [hi]; rfl
  exact (released_of_removed h (isCurrent_of_jobless hjob (.ref r))).refBegun hjob
    (State.RefsTo.not_calibrating_of_idle h hi hx) rfl

/-- The head entry of an IDLE converter is dispatched (R100 to R103). -/
theorem dispatchHead (h : s.ScheduleSound) (hi : s.converter.state = .idle) {e : QueueEntry} {rest : List QueueEntry}
    (hq : s.queue = e :: rest) : (s.dispatchHead e).ScheduleSound := by
  have hjob : s.converter.state.job = none := by rw [hi]; rfl
  unfold State.dispatchHead
  split
  · split
    · next x hx => exact h.handRef hi hx _
    · exact h
  · next p he =>
    have hlive : s.isLive p = true := h.live (scheduled_head hq he)
    have hreleased : (s.removeEntry (.point p)).Released (.point p) :=
      released_of_removed h (isCurrent_of_jobless hjob _)
    split
    · split
      · next x hx =>
        split
        · exact hreleased.pointBegun hjob hlive rfl
        · exact h.handRef hi hx _
        · exact evaluateFault hreleased hlive ..
        · exact h
      · exact h
    · exact h

theorem dispatched (h : s.ScheduleSound) : s.dispatched.ScheduleSound := by
  unfold State.dispatched
  split
  · next hi hq =>
    split
    · exact h.dispatchHead hi hq
    · exact h
  · exact h

/-- Falling due sets a mark (R93). -/
theorem markBoundary (h : s.ScheduleSound) : (s.setQueue (markBoundary s.clock s.queue)).ScheduleSound := by
  have hrecords := map_record_markBoundary s.clock s.queue
  refine h.requeued ?_ (isSome_entryIn_of_records hrecords)
  rw [EachOnce, hrecords]
  exact h.eachOnce

/-! ### The events of the other units -/

theorem atBoundary (h : s.ScheduleSound) (c : ChannelId) : (s.atBoundary c).ScheduleSound := by
  unfold State.atBoundary
  split
  · exact h.same rfl rfl rfl rfl
  · exact h

theorem atDuty (h : s.ScheduleSound) (c : ChannelId) : (s.atDuty c).ScheduleSound := by
  unfold State.atDuty
  split
  · exact h.same rfl rfl rfl rfl
  · exact h

theorem dimEnded (h : s.ScheduleSound) (c : Column) : (s.dimEnded c).ScheduleSound := by
  unfold State.dimEnded
  split
  · exact h.same rfl rfl rfl rfl
  · exact h

theorem blanked (h : s.ScheduleSound) : s.blanked.ScheduleSound := by
  unfold State.blanked
  split
  · exact h.same rfl rfl rfl rfl
  · exact h

theorem echoed (h : s.ScheduleSound) (data : Byte) (mark stop : Bool) : (s.echoed data mark stop).ScheduleSound := by
  unfold State.echoed
  split
  · exact h
  · split
    · split <;> exact h.same rfl rfl rfl rfl
    · exact h.same rfl rfl rfl rfl

/-! ### Every row -/

theorem complete {code : Byte} {command : Byte → List Byte → State → Answer} (h : s.ScheduleSound)
    (he : complete code command s = .next t)
    (hc : ∀ source payload, (command source payload s).Leaves State.ScheduleSound) : t.ScheduleSound :=
  complete_keeps he h (fun _ _ hu => hu.same rfl rfl rfl rfl) fun f _ => hc f.source f.payload

theorem running (h : s.ScheduleSound) {u : State} (he : running s u = .next t) (hu : u.ScheduleSound) : t.ScheduleSound :=
  running_keeps he h hu

theorem unknownCommand (h : s.ScheduleSound) (he : execUnknownCommand s = .next t) : t.ScheduleSound := by
  unfold execUnknownCommand at he
  split at he
  · split at he <;> exact Host.Outcome.next.inj he ▸ h.same rfl rfl rfl rfl
  · exact Host.Outcome.next.inj he ▸ h

theorem resetRelease {addr : BitVec 3} {rate : BitVec 2} (h : s.ScheduleSound)
    (he : execResetRelease addr rate s = .next t) : t.ScheduleSound := by
  unfold execResetRelease at he
  split at he
  · exact Host.Outcome.next.inj he ▸ cleared rfl rfl rfl rfl
  · exact Host.Outcome.next.inj he ▸ h

end State.ScheduleSound

/-- Every row keeps the agreement. A row of another unit touches none of what it reads. -/
theorem exec_scheduleSound {c : Instr} {s t : State} (h : s.ScheduleSound) (he : exec c s = .next t) : t.ScheduleSound := by
  have hother : ∀ u : State, u.queue = s.queue → u.points = s.points → u.refs = s.refs → u.converter = s.converter →
      u.ScheduleSound := fun _ => h.same
  cases c with
  | definePoint =>
    exact h.complete he fun _ _ => definePoint_leaves fun _ _ _ hv _ _ _ _ _ => leaves_bindingTest (h.fillSlot hv _ _)
  | amendPoint =>
    exact h.complete he fun _ _ => amendPoint_leaves fun _ _ _ _ hr _ _ _ _ _ => leaves_bindingTest (h.amendSlot hr _ _)
  | startPoint => exact h.complete he fun _ _ => startPoint_leaves fun _ _ hr hl => h.start hr hl
  | stopPoint =>
    exact h.complete he fun _ _ => stopPoint_leaves (fun p r _ _ => h.stopLive p r) fun _ _ hr hh =>
      h.livenessKept rfl (by rw [isLive_some hr, hh]; rfl) rfl rfl rfl
  | retirePoint => exact h.complete he fun _ _ => retirePoint_leaves fun _ _ hr => h.retire hr
  | readPoint => exact h.complete he fun _ _ => readPoint_leaves h
  | findTag => exact h.complete he fun _ _ => findTag_leaves h
  | listPoints => exact h.complete he fun _ _ => listPoints_leaves h
  | offerPoint =>
    exact h.complete he fun _ _ => offerPoint_leaves fun _ _ _ hr _ _ _ => h.pointRewritten hr rfl rfl rfl rfl rfl
  | withdrawOffer =>
    exact h.complete he fun _ _ => withdrawOffer_leaves fun _ _ hr => h.pointRewritten hr rfl rfl rfl rfl rfl
  | takePoint => exact h.complete he fun _ _ => takePoint_leaves fun _ _ hr _ _ => h.moveOwner hr _
  | assignOwner => exact h.complete he fun _ _ => assignOwner_leaves fun _ _ _ hr _ _ _ => h.moveOwner hr _
  | defineRef => exact h.complete he fun _ _ => defineRef_leaves fun _ _ _ _ _ hv _ => h.defineRef hv ..
  | amendRef => exact h.complete he fun _ _ => amendRef_leaves fun _ _ _ _ _ _ _ hx _ _ _ _ => h.amendRef hx ..
  | calibrateRef => exact h.complete he fun _ _ => calibrateRef_leaves fun _ _ hx hn => h.callCalibration hx hn
  | readRef => exact h.complete he fun _ _ => readRef_leaves h
  | retireRef => exact h.complete he fun _ _ => retireRef_leaves fun r _ _ _ => h.emptyRef r
  | measureNow => exact h.complete he fun _ _ => measureNow_leaves fun p => h.bringForward p
  | measureOwned => exact h.complete he fun _ _ => measureOwned_leaves fun slots => h.allBroughtForward slots
  | configureDrive => exact h.complete he fun _ _ => configureDrive_leaves fun _ _ _ _ _ _ => hother _ rfl rfl rfl rfl
  | setDriveLevels => exact h.complete he fun _ _ => setDriveLevels_leaves fun _ _ => hother _ rfl rfl rfl rfl
  | setDrivePeriod => exact h.complete he fun _ _ => setDrivePeriod_leaves fun _ _ _ => hother _ rfl rfl rfl rfl
  | setManualDuty => exact h.complete he fun _ _ => setManualDuty_leaves fun _ _ => hother _ rfl rfl rfl rfl
  | enableDrive => exact h.complete he fun _ _ => enableDrive_leaves fun _ _ => hother _ rfl rfl rfl rfl
  | disableDrive => exact h.complete he fun _ _ => disableDrive_leaves fun _ => hother _ rfl rfl rfl rfl
  | releaseDrive => exact h.complete he fun _ _ => releaseDrive_leaves fun _ _ _ => hother _ rfl rfl rfl rfl
  | readDrive => exact h.complete he fun _ _ => readDrive_leaves h
  | locatePoint =>
    exact h.complete he fun _ _ => locatePoint_leaves fun _ _ _ hr => h.pointRewritten hr rfl rfl rfl rfl rfl
  | readNotices => exact h.complete he fun _ _ => readNotices_leaves (h.noticesRead _)
  | readStatus => exact h.complete he fun _ _ => readStatus_leaves h
  | clearCauses => exact h.complete he fun _ _ => clearCauses_leaves (hother _ rfl rfl rfl rfl)
  | setDevice => exact h.complete he fun _ _ => setDevice_leaves fun _ => hother _ rfl rfl rfl rfl
  | clearTables => exact h.complete he fun _ _ => clearTables_leaves (.cleared rfl rfl rfl rfl)
  | unknownCommand => exact h.unknownCommand he
  | hardwareReset => exact Host.Outcome.next.inj he ▸ .cleared rfl rfl rfl rfl
  | resetRelease addr rate => exact h.resetRelease he
  | scheduleClockStep => exact h.running he (hother _ rfl rfl rfl rfl)
  | fallingDue => exact h.running he h.markBoundary
  | offerExpiry slot => exact h.running he (h.expireOffer slot)
  | locateExpiry slot => exact h.running he (h.expireLocate slot)
  | freshnessDeadlineExpiry slot => exact h.running he (h.expireDeadline slot)
  | dispatch => exact h.running he h.dispatched
  | supplyCheckLatch vdda => exact h.running he (h.latchSupply vdda)
  | holdExpiry => exact h.running he h.endHold
  | referenceCountComplete frequency => exact h.running he (h.countComplete frequency)
  | referenceTimeBaseLimit frequency => exact h.running he (h.timeBaseLimit frequency)
  | sensorCountOverflow frequency => exact h.running he (h.sensorOverflow frequency)
  | sensorWindowEnd frequency => exact h.running he (h.windowEnd frequency)
  | periodBoundary channel => exact h.running he (h.atBoundary channel)
  | rowSlotStart => exact h.running he (hother _ rfl rfl rfl rfl)
  | cellOnTimeEnd column => exact h.running he (h.dimEnded column)
  | blankingGap => exact h.running he h.blanked
  | addressCharacter value => exact h.running he (hother _ rfl rfl rfl rfl)
  | dataCharacter value => exact h.running he (hother _ rfl rfl rfl rfl)
  | stopBitError data mark => exact h.running he (hother _ rfl rfl rfl rfl)
  | idleGap => exact h.running he (hother _ rfl rfl rfl rfl)
  | lineBreak => exact h.running he (hother _ rfl rfl rfl rfl)
  | lineRise => exact h.running he (hother _ rfl rfl rfl rfl)
  | turnaroundEnd => exact h.running he (hother _ rfl rfl rfl rfl)
  | characterEcho data mark stop => exact h.running he (h.echoed data mark stop)
  | driveDutyCount channel => exact h.running he (h.atDuty channel)

/-- Settles O6: a row releases at most one record from the queue or the converter and settles it again, and the count of live users
that it changes moves the entry of its reference. -/
theorem scheduleSoundAfterEveryStep : Obligations.ScheduleSoundAfterEveryStep := by
  intro s t hs h
  rcases step_next h with rfl | ⟨c, rest, -, h⟩
  · exact hs
  · exact exec_scheduleSound (hs.same (t := { s with pending := rest }) rfl rfl rfl rfl) h

end Sys2Proof.Machine

/-! SUPPORT. The judgement of a measured value and the expiry of the freshness deadline (R113 to R117, R125). -/

namespace Sys2Proof.Machine

/-! ### The judgement of a value (R114 to R117) -/

section
variable {r : PointRecord} {v : Half}

theorem classify_below (h : v.toNat < r.bandLow.toNat) : classify r v = .low := if_pos h

theorem classify_above (hl : r.bandLow.toNat ≤ v.toNat) (hh : r.bandHigh.toNat < v.toNat) : classify r v = .high := by
  rw [classify, if_neg (Nat.not_lt.mpr hl), if_pos hh]

theorem classify_within (hl : r.bandLow.toNat ≤ v.toNat) (hh : v.toNat ≤ r.bandHigh.toNat) : classify r v = .normal := by
  rw [classify, if_neg (Nat.not_lt.mpr hl), if_neg (Nat.not_lt.mpr hh)]

/-- Only LOW and HIGH hold a value back: from every other alarm state the hysteresis has no part (R114, R115). -/
theorem judge_eq_classify (h : r.alarm = .unknown ∨ r.alarm = .fault ∨ r.alarm = .normal) : judge r v = classify r v := by
  rcases h with h | h | h <;> simp only [judge, h]

/-- LOW is left at the hysteresis above the lower edge (R116). -/
theorem judge_of_low (h : r.alarm = .low) :
    judge r v = if r.bandLow.toNat + r.hysteresis.toNat ≤ v.toNat then
      if r.bandHigh.toNat < v.toNat then .high else .normal
    else .low := by
  simp only [judge, h]

/-- HIGH is left at the hysteresis below the upper edge (R117). -/
theorem judge_of_high (h : r.alarm = .high) :
    judge r v = if v.toNat + r.hysteresis.toNat ≤ r.bandHigh.toNat then
      if v.toNat < r.bandLow.toNat then .low else .normal
    else .high := by
  simp only [judge, h]

end

/-- In a band that fits, the value at which LOW is left is not yet above the band (R3, R116). -/
theorem PointRecord.bandFits.hysteresis_within {r : PointRecord} (h : r.bandFits) :
    r.bandLow.toNat + r.hysteresis.toNat ≤ r.bandHigh.toNat := by
  obtain ⟨hband, hhalf⟩ := h
  omega

/-- A measurement outcome writes the measured record into the slot, whatever it asks of a bound channel (R113). -/
theorem evaluateMeasurement_record {s : State} {p : Slot} {r : PointRecord} (hr : s.points[p] = some r) (start : Clock)
    (v : Half) (q : Quality) :
    (s.evaluateMeasurement p start v q).points[p] = some (measuredRecord r v q s.clock) := by
  simp only [State.evaluateMeasurement, hr, apply_ite State.points, announce_points, insertEntry_points, ite_self]
  exact Vector.getElem_set_self _

/-- Settles O20: the window's end hands the evaluator a value, which the measured record holds with its judgement; the judgement
by the alarm state that it starts from. -/
theorem judgementFollowsBandAndHysteresis : Obligations.JudgementFollowsBandAndHysteresis := by
  constructor
  · intro s j p r count frequency hreset hs hj hcount hr hmin hmax
    have hwindow : j.window = count.toNat := by rw [Job.window, hcount, Option.getD_some]
    rw [← hwindow] at hmin hmax
    have hend : exec (.sensorWindowEnd frequency) s = .next (s.windowEnd frequency) := running_free hreset _
    rw [hend, windowEnd_point hs hj hmax, if_neg (Nat.not_lt.mpr hmin)]
    exact ⟨_, _, _, rfl, evaluateMeasurement_record (s := s.endPhase) hr j.start _ _, rfl, rfl⟩
  · intro r v
    refine ⟨fun ha => ?_, fun ha => ?_, fun ha => ?_, fun hfits => ⟨hfits.hysteresis_within, ?_⟩⟩
    · rw [judge_eq_classify ha]
      exact ⟨classify_below, classify_above, classify_within⟩
    · rw [judge_of_low ha]
      refine ⟨fun hheld => if_neg (Nat.not_le.mpr hheld), fun hleft hover => ?_, fun hleft hin => ?_⟩
      · rw [if_pos hleft, if_pos hover]
      · rw [if_pos hleft, if_neg (Nat.not_lt.mpr hin)]
    · rw [judge_of_high ha]
      refine ⟨fun hheld => if_neg (Nat.not_le.mpr hheld), fun hleft hunder => ?_, fun hleft hin => ?_⟩
      · rw [if_pos hleft, if_pos hunder]
      · rw [if_pos hleft, if_neg (Nat.not_lt.mpr hin)]
    · rintro ⟨hunder, hover⟩
      obtain ⟨hband, -⟩ := hfits
      omega

/-! ### The expiry of the freshness deadline (R125) -/

section
variable {s : State} {p : Slot} {r : PointRecord}

/-- Of a point that is not LIVE, or has no deadline, or one still to come, nothing expires (R125, log 2). -/
theorem expireDeadline_waiting (hr : s.points[p] = some r)
    (h : r.state ≠ .live ∨ r.deadline = none ∨ ∃ t, r.deadline = some t ∧ atOrBefore t s.clock = false) :
    s.expireDeadline p = s := by
  have hwaits : (r.state == .live && hasCome r.deadline s.clock) = false := by
    rcases h with hl | hnone | ⟨t, ht, hearly⟩
    · rw [beq_false_of_ne hl, Bool.false_and]
    · rw [hnone, hasCome, Bool.and_false]
    · rw [ht, hasCome, hearly, Bool.and_false]
  simp only [State.expireDeadline, hr, hwaits, Bool.false_eq_true, if_false]

variable {t : Clock}

/-- A deadline that has come is dropped; a point that was not at FAULT is judged STALE and FAULT besides, and announced. -/
theorem expireDeadline_due (hr : s.points[p] = some r) (hl : r.state = .live) (ht : r.deadline = some t)
    (hdue : atOrBefore t s.clock = true) : s.expireDeadline p =
      if r.alarm = .fault then s.setPoint p (some { r with deadline := none })
      else (s.setPoint p (some { r with quality := .stale, alarm := .fault, deadline := none })).announce p r .fault := by
  simp only [State.expireDeadline, hr, hl, ht, hasCome, hdue, beq_self_eq_true, Bool.and_self, if_true, beq_iff_eq]

end

/-- Settles O42: the deadline that has come by the alarm state, its announcement as one update, and the waiting cases together. -/
theorem freshnessExpiryMakesAPointStale : Obligations.FreshnessExpiryMakesAPointStale := by
  intro s p r hreset hr hown
  have hexec : exec (.freshnessDeadlineExpiry p) s = .next (s.expireDeadline p) := running_free hreset _
  rw [hexec]
  refine ⟨fun t hl ht hdue => ⟨fun hnew => congrArg _ ?_, fun hold => congrArg _ ?_⟩,
    fun h => congrArg _ (expireDeadline_waiting hr h)⟩
  · rw [expireDeadline_due hr hl ht hdue, if_neg hnew]
    exact announce_own (s := s.setPoint p (some { r with quality := .stale, alarm := .fault, deadline := none })) hown p .fault
  · rw [expireDeadline_due hr hl ht hdue, if_pos hold]
    rfl

end Sys2Proof.Machine

/-! SUPPORT. What every row can make of the drive channels and of the drive bindings of the points, and the three statements that
follow (R146, R132, R137, R134). -/

namespace Sys2Proof.Machine

/-! ### Operations that leave the channels alone -/

@[simp] theorem gainUser_channels (s : State) (r : RefId) : (s.gainUser r).channels = s.channels := by rw [gainUser_frame]
@[simp] theorem loseUser_channels (s : State) (r : RefId) : (s.loseUser r).channels = s.channels := by rw [loseUser_frame]

@[simp] theorem gainLiveUser_channels (s : State) (r : RefId) : (s.gainLiveUser r).channels = s.channels := by
  rw [gainLiveUser_frame]
@[simp] theorem loseLiveUser_channels (s : State) (r : RefId) : (s.loseLiveUser r).channels = s.channels := by
  rw [loseLiveUser_frame]

@[simp] theorem insertEntry_channels (s : State) (k : Record) (due : Clock) :
    (s.insertEntry k due).channels = s.channels := rfl

@[simp] theorem withdraw_channels (s : State) (p : Slot) : (s.withdraw p).channels = s.channels := by rw [withdraw_eq]

theorem callCalibration_channels (s : State) (r : RefId) : (s.callCalibration r).channels = s.channels := by
  rw [callCalibration_eq]

/-! ### Requests to one channel -/

/-- A request writes the pending duty alone (R137). -/
theorem request_frame (x : DriveChannel) (duty : Half) :
    x.request duty = { x with pendingDuty := (x.request duty).pendingDuty } := by
  unfold DriveChannel.request
  split <;> rfl

/-- A channel that a point takes up has its binding, and a pending duty, written (R147). -/
theorem takenUp_frame (x : DriveChannel) (p : Slot) (a : Alarm) :
    x.takenUp p a = { x with binding := some p, pendingDuty := (x.takenUp p a).pendingDuty } :=
  request_frame { x with binding := some p } _

/-- A channel that its point leaves has its binding, and a pending duty, written (R147). -/
theorem left_frame (x : DriveChannel) : x.left = { x with binding := none, pendingDuty := x.left.pendingDuty } :=
  request_frame { x with binding := none } _

/-- Channel `c` once slot `p` has moved its drive binding from `old` to `new`: left, taken up, or as it was (R147). -/
def DriveChannel.rebound (x : DriveChannel) (c : ChannelId) (old new : Option ChannelId) (p : Slot) (a : Alarm) :
    DriveChannel :=
  if new = some c then (if old = some c then x.left else x).takenUp p a else if old = some c then x.left else x

theorem rebound_taken {c : ChannelId} {new : Option ChannelId} (h : new = some c) (x : DriveChannel) (old : Option ChannelId)
    (p : Slot) (a : Alarm) : x.rebound c old new p a = (if old = some c then x.left else x).takenUp p a := if_pos h

theorem rebound_left {c : ChannelId} {old new : Option ChannelId} (hnew : new ≠ some c) (hold : old = some c)
    (x : DriveChannel) (p : Slot) (a : Alarm) : x.rebound c old new p a = x.left := (if_neg hnew).trans (if_pos hold)

theorem rebound_other {c : ChannelId} {old new : Option ChannelId} (hnew : new ≠ some c) (hold : old ≠ some c)
    (x : DriveChannel) (p : Slot) (a : Alarm) : x.rebound c old new p a = x := (if_neg hnew).trans (if_neg hold)

/-! ### The requests of the points, channel by channel -/

theorem bindChannel_channel (s : State) (b : Option ChannelId) (p : Slot) (a : Alarm) (c : ChannelId) :
    (s.bindChannel b p a).channels[c] = if b = some c then s.channels[c].takenUp p a else s.channels[c] := by
  cases b with
  | none => rfl
  | some d =>
    simp only [State.bindChannel, State.setChannel_channels, getElem_setFin, Option.some.injEq, eq_comm (a := d)]
    split
    · next e => rw [e]
    · rfl

theorem unbindChannel_channel (s : State) (b : Option ChannelId) (c : ChannelId) :
    (s.unbindChannel b).channels[c] = if b = some c then s.channels[c].left else s.channels[c] := by
  cases b with
  | none => rfl
  | some d =>
    simp only [State.unbindChannel, State.setChannel_channels, getElem_setFin, Option.some.injEq, eq_comm (a := d)]
    split
    · next e => rw [e]
    · rfl

theorem moveChannelOwner_channel (s : State) (b : Option ChannelId) (owner : Byte) (c : ChannelId) :
    (s.moveChannelOwner b owner).channels[c] =
      if b = some c then { s.channels[c] with owner := owner } else s.channels[c] := by
  cases b with
  | none => rfl
  | some d =>
    simp only [State.moveChannelOwner, State.setChannel_channels, getElem_setFin, Option.some.injEq, eq_comm (a := d)]
    split
    · next e => rw [e]
    · rfl

/-! Each of these requests reads the channels alone. -/

theorem bindChannel_channels_congr {s u : State} (h : u.channels = s.channels) (b : Option ChannelId) (p : Slot) (a : Alarm) :
    (u.bindChannel b p a).channels = (s.bindChannel b p a).channels := by
  cases b with
  | none => exact h
  | some c => simp only [State.bindChannel, State.setChannel_channels, h]

theorem unbindChannel_channels_congr {s u : State} (h : u.channels = s.channels) (b : Option ChannelId) :
    (u.unbindChannel b).channels = (s.unbindChannel b).channels := by
  cases b with
  | none => exact h
  | some c => simp only [State.unbindChannel, State.setChannel_channels, h]

theorem requestLevel_channels_congr {s u : State} (h : u.channels = s.channels) (b : Option ChannelId) (a : Alarm) :
    (u.requestLevel b a).channels = (s.requestLevel b a).channels := by
  cases b with
  | none => exact h
  | some c => simp only [State.requestLevel, State.setChannel_channels, h]

/-- An announcement is the request of the point as far as the channels go (R122). -/
theorem announce_channels (s : State) (p : Slot) (r : PointRecord) (a : Alarm) :
    (s.announce p r a).channels = (s.requestLevel r.binding a).channels := by
  unfold State.announce
  split
  · exact requestLevel_channels_congr (State.setNoticePoint_channels s p true) r.binding a
  · rfl

/-! ### The commands of a point, channel by channel -/

theorem fillSlot_channel (s : State) (p : Slot) (r : PointRecord) (c : ChannelId) :
    (s.fillSlot p r).channels[c] = s.channels[c].rebound c none r.binding p .unknown := by
  rw [State.fillSlot, bindChannel_channels_congr (s := s) (by simp), bindChannel_channel]
  rfl

theorem retire_channel (s : State) (p : Slot) (r : PointRecord) (c : ChannelId) :
    (s.retire p r).channels[c] = s.channels[c].rebound c r.binding none p .unknown := by
  have hchannels : (s.retire p r).channels = (s.unbindChannel r.binding).channels := by
    simp only [State.retire, State.leavePoint, State.setNoticePoint_channels]
    exact unbindChannel_channels_congr (by simp [apply_ite State.channels]) r.binding
  rw [hchannels, unbindChannel_channel]
  rfl

theorem amendSlot_channels_of_eq (s : State) (p : Slot) {r n : PointRecord} (h : n.binding = r.binding) :
    (s.amendSlot p r n).channels = s.channels := by
  simp [State.amendSlot, State.leavePoint, apply_ite State.channels, h]

theorem amendSlot_channel_of_ne (s : State) (p : Slot) {r n : PointRecord} (h : n.binding ≠ r.binding) (c : ChannelId) :
    (s.amendSlot p r n).channels[c] = s.channels[c].rebound c r.binding n.binding p r.alarm := by
  have hchannels : (s.amendSlot p r n).channels = ((s.unbindChannel r.binding).bindChannel n.binding p r.alarm).channels := by
    simp only [State.amendSlot, bne_iff_ne.mpr h, if_true, apply_ite State.channels, gainUser_channels, loseUser_channels,
      ite_self]
    refine bindChannel_channels_congr (unbindChannel_channels_congr ?_ _) _ _ _
    simp [State.leavePoint, apply_ite State.channels]
  rw [hchannels, bindChannel_channel, unbindChannel_channel]
  rfl

theorem moveOwner_points (s : State) (p : Slot) (r : PointRecord) (owner : Byte) :
    (s.moveOwner p r owner).points = s.points.set p (some { r with
      owner := owner
      offer := if r.offer.any (fun o => o.recipient == owner) then none else r.offer }) := by
  simp only [State.moveOwner, moveChannelOwner_points, State.setPoint_points]

theorem moveOwner_channel (s : State) (p : Slot) (r : PointRecord) (owner : Byte) (c : ChannelId) :
    (s.moveOwner p r owner).channels[c] =
      if r.binding = some c then { s.channels[c] with owner := owner } else s.channels[c] :=
  moveChannelOwner_channel (s.setPoint p _) r.binding owner c

/-! ### The drive bindings of the points -/

/-- What R146 reads of a point: its owner and its drive binding. -/
structure Claim where
  owner : Byte
  binding : Option ChannelId

/-- The claims of all slots. -/
abbrev Claims := Slot → Option Claim

/-- The drive channels. -/
abbrev ChannelTable := Vector DriveChannel 8

def PointRecord.claim (r : PointRecord) : Claim := ⟨r.owner, r.binding⟩

def State.claims (s : State) : Claims := fun p => (s.points[p]).map PointRecord.claim

theorem claims_some {s : State} {p : Slot} {r : PointRecord} (h : s.points[p] = some r) : s.claims p = some r.claim := by
  simp only [State.claims, h, Option.map_some]

theorem claims_none {s : State} {p : Slot} (h : s.points[p] = none) : s.claims p = none := by
  simp only [State.claims, h, Option.map_none]

theorem claims_congr {s t : State} (h : t.points = s.points) : t.claims = s.claims := by
  funext p
  simp only [State.claims, h]

/-- One slot is written. -/
theorem claims_set {s t : State} {p : Slot} {n : Option PointRecord} (h : t.points = s.points.set p n) :
    t.claims = Function.update s.claims p (n.map PointRecord.claim) := by
  funext k
  simp only [State.claims, h, getElem_setFin, Function.update_apply]
  split <;> rfl

/-- A record is written that keeps its owner and its drive binding. -/
theorem claims_written {s t : State} {p : Slot} {r n : PointRecord} (hr : s.points[p] = some r) (hn : n.claim = r.claim)
    (h : t.points = s.points.set p (some n)) : t.claims = s.claims := by
  rw [claims_set h, Option.map_some, hn, ← claims_some hr, Function.update_eq_self]

/-! ### How a row changes the channels and the claims -/

/-- What a row can make of one channel, beside a boundary, a change of its binding, and the owner that moves with its point. -/
inductive ChannelWrite (c : ChannelId) (x : DriveChannel) : DriveChannel → Prop
  /-- The request of a point (R122). -/
  | asked (duty : Half) : ChannelWrite c x (x.request duty)
  /-- CONFIGURE_DRIVE (R138, R139). -/
  | configured (f : DriveFields) (source : Byte) (he : x.enabled = false) (hf : 2 ≤ f.period.toNat)
    (hm : modeOf f.mode = .follow → c ≠ 0 ∧ x.binding = none) : ChannelWrite c x (configuredChannel f source x)
  /-- SET_DRIVE_LEVELS (R140). -/
  | levelled (alarm : Option Alarm) (l : Levels) : ChannelWrite c x (levelledChannel alarm l x)
  /-- SET_MANUAL_DUTY (R141). -/
  | manual (duty : Half) : ChannelWrite c x (manualChannel duty x)
  /-- SET_DRIVE_PERIOD (R142). -/
  | period (period : Half) (h : 2 ≤ period.toNat) : ChannelWrite c x (periodChannel period x)
  /-- ENABLE_DRIVE (R143). -/
  | enabled (duty : Half) (he : x.enabled = false) : ChannelWrite c x (enabledChannel duty x)
  /-- DISABLE_DRIVE (R144). -/
  | disabled : ChannelWrite c x (disabledChannel x)
  /-- RELEASE_DRIVE (R149). -/
  | released (hb : x.binding = none) : ChannelWrite c x { x with owner := 0 }
  /-- DRIVE_DUTY_COUNT (R133). -/
  | counted : ChannelWrite c x { x with counter := x.activeDuty }

/-- The channel of a claim has its owner, is in OWN mode, and is bound to no other slot than `p` (R7). -/
def Claim.Passes (n : Claim) (channels : ChannelTable) (p : Slot) : Prop :=
  ∀ c ∈ n.binding, channels[c].owner = n.owner ∧ channels[c].mode = .own ∧
    (channels[c].binding = none ∨ channels[c].binding = some p)

/-- What a row that is no boundary can make of the channels and the claims; `owners` are those that it can name for a point. -/
inductive ChannelsChange (owners : Byte → Prop) (claims : Claims) (channels : ChannelTable) (claims' : Claims)
    (channels' : ChannelTable) : Prop
  /-- Every row that is not named below. -/
  | kept (hb : claims' = claims) (hc : channels' = channels)
  /-- One channel is written. -/
  | written (c : ChannelId) (y : DriveChannel) (hy : ChannelWrite c channels[c] y) (hb : claims' = claims)
    (hc : channels' = channels.set c y)
  /-- DEFINE_POINT, RETIRE_POINT, and an AMEND_POINT of the drive binding (R9, R15, R20). -/
  | rebound (p : Slot) (new : Option Claim) (a : Alarm)
    (ho : ∀ n ∈ new, owners n.owner ∨ ∃ m ∈ claims p, m.owner = n.owner) (hn : ∀ n ∈ new, n.Passes channels p)
    (hb : claims' = Function.update claims p new)
    (hc : ∀ c : ChannelId,
      channels'[c] = channels[c].rebound c ((claims p).bind Claim.binding) (new.bind Claim.binding) p a)
  /-- TAKE_POINT and ASSIGN_OWNER (R39, R44, R148). -/
  | moved (p : Slot) (m : Claim) (owner : Byte) (hm : claims p = some m) (ho : owners owner)
    (hb : claims' = Function.update claims p (some { m with owner := owner }))
    (hc : ∀ c : ChannelId,
      channels'[c] = if m.binding = some c then { channels[c] with owner := owner } else channels[c])
  /-- CLEAR_TABLES and hardware reset (R172, R173). -/
  | cleared (hb : claims' = fun _ => none) (hc : channels' = Vector.replicate 8 DriveChannel.reset)

/-- A controller that a row can make the owner of a point: the source of the frame in the command buffer, or one of 1-15. -/
def State.canName (s : State) (owner : Byte) : Prop := s.commandedBy owner ∨ 1 ≤ owner.toNat ∧ owner.toNat ≤ 15

/-- How a row that leads from `s` to `t` changes the channels and the claims. -/
def State.ChannelsTo (s t : State) : Prop := ChannelsChange s.canName s.claims s.channels t.claims t.channels

/-- A channel named by a command passes the drive binding test before the rest is reached (R7). -/
theorem leaves_bindingTest_passed {P : State → Prop} {s : State} {b : Option ChannelId} {owner : Byte} {p : Slot}
    {rest : Answer} (h : Claim.Passes ⟨owner, b⟩ s.channels p → rest.Leaves P) :
    (bindingTest s b owner p rest).Leaves P := by
  cases b with
  | none => exact h (by rintro c ⟨⟩)
  | some d =>
    refine leaves_require fun howner => leaves_require fun hmode => leaves_require fun hfree => h ?_
    rintro c ⟨⟩
    exact ⟨beq_iff_eq.mp howner, beq_iff_eq.mp hmode, by simpa using hfree⟩

namespace State.ChannelsTo

variable {s t u : State} {p : Slot} {c : ChannelId}

/-- Neither the channels nor the point table are touched. -/
theorem same (hp : t.points = s.points) (hc : t.channels = s.channels) : s.ChannelsTo t :=
  ChannelsChange.kept (claims_congr hp) hc

/-- A record is written that keeps its owner and its drive binding. -/
theorem rewritten {r n : PointRecord} (hr : s.points[p] = some r) (hp : t.points = s.points.set p (some n))
    (hn : n.claim = r.claim) (hc : t.channels = s.channels) : s.ChannelsTo t :=
  ChannelsChange.kept (claims_written hr hn hp) hc

/-- One channel is written. -/
theorem written {y : DriveChannel} (hy : ChannelWrite c s.channels[c] y) : s.ChannelsTo (s.setChannel c y) :=
  ChannelsChange.written c y hy (claims_congr rfl) rfl

/-- A point asks its channel, if it has one, for a level (R122); `u` is the part at the request. -/
theorem asked {b : Option ChannelId} {a : Alarm} (hb : t.claims = s.claims)
    (hc : t.channels = (u.requestLevel b a).channels) (hu : u.channels = s.channels) : s.ChannelsTo t := by
  rw [requestLevel_channels_congr hu] at hc
  cases b with
  | none => exact ChannelsChange.kept hb hc
  | some d => exact ChannelsChange.written d _ (.asked _) hb hc

theorem cleared (hp : t.points = Vector.replicate 48 none) (hc : t.channels = Vector.replicate 8 DriveChannel.reset) :
    s.ChannelsTo t :=
  ChannelsChange.cleared (by funext p; simp [State.claims, hp]) hc

/-! ### The point commands -/

theorem fillSlot {f : PointFields} {source : Byte} (hv : s.points[p] = none) (hs : s.commandedBy source)
    (hn : Claim.Passes ⟨source, bindingOf f.binding⟩ s.channels p) :
    s.ChannelsTo (s.fillSlot p (definedRecord f source)) := by
  refine ChannelsChange.rebound p (some (definedRecord f source).claim) .unknown ?_ ?_
    (claims_set (n := some (definedRecord f source)) (by simp [State.fillSlot])) fun c => ?_
  · rintro n ⟨⟩
    exact .inl (.inl hs)
  · rintro n ⟨⟩
    exact hn
  · rw [claims_none hv]
    exact fillSlot_channel s p _ c

/-- An amendment that changes the drive binding has made the test for the new one (R12). -/
theorem amendSlot {r : PointRecord} {mask : Half} {f : PointFields} (hr : s.points[p] = some r)
    (hn : Claim.Passes ⟨r.owner, if mask.getLsbD 10 then bindingOf f.binding else none⟩ s.channels p) :
    s.ChannelsTo (s.amendSlot p r (amendedRecord mask f r)) := by
  have hbinding : (amendedRecord mask f r).binding = if mask.getLsbD 10 then bindingOf f.binding else r.binding := rfl
  by_cases he : (amendedRecord mask f r).binding = r.binding
  · exact rewritten hr (amendSlot_points ..) (congrArg (Claim.mk r.owner) he) (amendSlot_channels_of_eq s p he)
  · have hm : mask.getLsbD 10 = true := by
      by_contra hm
      exact he (hbinding.trans (if_neg hm))
    refine ChannelsChange.rebound p (some (amendedRecord mask f r).claim) r.alarm ?_ ?_ (claims_set (amendSlot_points ..))
      fun c => ?_
    · rintro n ⟨⟩
      exact .inr ⟨r.claim, claims_some hr, rfl⟩
    · rintro n ⟨⟩
      rw [if_pos hm] at hn
      rwa [PointRecord.claim, hbinding, if_pos hm]
    · rw [claims_some hr]
      exact amendSlot_channel_of_ne s p he c

theorem retire {r : PointRecord} (hr : s.points[p] = some r) : s.ChannelsTo (s.retire p r) := by
  refine ChannelsChange.rebound p none .unknown (by rintro n ⟨⟩) (by rintro n ⟨⟩) (claims_set (retire_points ..))
    fun c => ?_
  rw [claims_some hr]
  exact retire_channel s p r c

theorem moveOwner {r : PointRecord} {owner : Byte} (hr : s.points[p] = some r) (ho : s.canName owner) :
    s.ChannelsTo (s.moveOwner p r owner) :=
  ChannelsChange.moved p r.claim owner (claims_some hr) ho (claims_set (moveOwner_points ..))
    (moveOwner_channel s p r owner)

theorem start {r : PointRecord} (hr : s.points[p] = some r) : s.ChannelsTo (s.start p r) :=
  asked (claims_written hr (n := { r with
    state := .live, faults := 0, alarm := .unknown
    deadline := some (s.clock + freshnessLimit r.interval r.staleFactor) }) rfl (by simp [State.start])) rfl (by simp)

theorem stopLive {r : PointRecord} (hr : s.points[p] = some r) : s.ChannelsTo (s.stopLive p r) :=
  asked (claims_written hr (n := { r with state := .dormant, alarm := .unknown, deadline := none }) rfl
    (by simp [State.stopLive])) rfl (by simp)

/-! ### The drive, reference and device commands -/

theorem configure {f : DriveFields} {source : Byte} (he : (!s.channels[c].enabled) = true)
    (hf : (flagCoded f.polarity && flagCoded f.mode && decide (2 ≤ f.period.toNat)) = true)
    (hm : (!(modeOf f.mode == .follow && (c == 0 || s.channels[c].binding.isSome))) = true) :
    s.ChannelsTo (s.setChannel c (configuredChannel f source s.channels[c])) := by
  obtain ⟨-, hperiod⟩ := (Bool.and_eq_true _ _).mp hf
  refine written (.configured f source (by simpa using he) (of_decide_eq_true hperiod) fun hfollow => ?_)
  simpa [hfollow] using hm

theorem noticesRead (s : State) (source : Byte) : s.ChannelsTo (s.noticesRead source) :=
  same (noticesRead_points ..) (by unfold State.noticesRead; rfl)

theorem emptyRef (s : State) (r : RefId) : s.ChannelsTo (s.emptyRef r) := by
  rw [emptyRef_eq]
  exact same rfl rfl

/-! ### The timed fields and the outcomes of a job -/

theorem expireDeadline (s : State) (p : Slot) : s.ChannelsTo (s.expireDeadline p) := by
  unfold State.expireDeadline
  split
  · next r hr =>
    split
    · split
      · exact rewritten hr rfl rfl rfl
      · exact asked (claims_written hr (n := { r with quality := .stale, alarm := .fault, deadline := none }) rfl (by simp))
          (announce_channels ..) (State.setPoint_channels ..)
    · exact same rfl rfl
  · exact same rfl rfl

theorem expireOffer (s : State) (p : Slot) : s.ChannelsTo (s.expireOffer p) := by
  unfold State.expireOffer
  split
  · next r hr =>
    split
    · dsimp only
      split <;> exact rewritten hr rfl rfl rfl
    · exact same rfl rfl
  · exact same rfl rfl

theorem expireLocate (s : State) (p : Slot) : s.ChannelsTo (s.expireLocate p) := by
  unfold State.expireLocate
  split
  · next r hr =>
    split
    · exact rewritten hr rfl rfl rfl
    · exact same rfl rfl
  · exact same rfl rfl

theorem evaluateMeasurement (s : State) (p : Slot) (start : Clock) (v : Half) (q : Quality) :
    s.ChannelsTo (s.evaluateMeasurement p start v q) := by
  unfold State.evaluateMeasurement
  split
  · next r hr =>
    dsimp only
    split
    · exact asked (claims_written hr (n := measuredRecord r v q s.clock) rfl (by simp)) (announce_channels ..) rfl
    · exact rewritten hr (n := measuredRecord r v q s.clock) rfl rfl rfl
  · exact same rfl rfl

theorem evaluateFault (s : State) (p : Slot) (start : Clock) (q : Quality) : s.ChannelsTo (s.evaluateFault p start q) := by
  unfold State.evaluateFault
  split
  · next r hr =>
    dsimp only
    split
    · exact asked (claims_written hr (n := faultedRecord r q) rfl (by simp [apply_ite State.points]))
        (announce_channels ..) (by simp [apply_ite State.channels])
    · exact rewritten hr (n := faultedRecord r q) (by simp [apply_ite State.points]) rfl (by simp [apply_ite State.channels])
  · exact same rfl rfl

theorem applyCount (s : State) (r : RefId) (n : BitVec 22) : s.ChannelsTo (s.applyCount r n) := by
  cases hx : s.refs[r] with
  | none =>
    simp only [State.applyCount, hx]
    exact same rfl rfl
  | some x =>
    rw [applyCount_some hx]
    exact same rfl rfl

theorem applyRefFault (s : State) (r : RefId) (f : RefFault) : s.ChannelsTo (s.applyRefFault r f) := by
  cases hx : s.refs[r] with
  | none =>
    simp only [State.applyRefFault, hx]
    exact same rfl rfl
  | some x =>
    rw [applyRefFault_some hx]
    exact same rfl rfl

theorem returnRef (s : State) (r : RefId) (due : Clock) : s.ChannelsTo (s.returnRef r due) := by
  cases hx : s.refs[r] with
  | none =>
    simp only [State.returnRef, hx]
    exact same rfl rfl
  | some x =>
    rw [returnRef_some hx]
    exact same rfl rfl

/-! ### The events of the converter and the due queue -/

theorem deliverPoint {j : Job} {outcome : Slot → State → State} (ho : ∀ p, s.endPhase.ChannelsTo (outcome p s.endPhase)) :
    s.ChannelsTo (s.endPhase.deliverPoint j outcome) := by
  unfold State.deliverPoint
  split
  · exact ho _
  · exact same rfl rfl

theorem deliverRef {j : Job} {outcome : RefId → State → State} (ho : ∀ r, s.endPhase.ChannelsTo (outcome r s.endPhase)) :
    s.ChannelsTo (s.endPhase.deliverRef j outcome) := by
  unfold State.deliverRef
  split
  · exact ho _
  · exact same rfl rfl

theorem sensorOverflow (s : State) (frequency : Nat) : s.ChannelsTo (s.sensorOverflow frequency) := by
  unfold State.sensorOverflow
  split
  · split
    · exact deliverPoint fun p => evaluateFault s.endPhase p _ .short
    · exact same rfl rfl
  · exact same rfl rfl

theorem windowEnd (s : State) (frequency : Nat) : s.ChannelsTo (s.windowEnd frequency) := by
  unfold State.windowEnd
  split
  · dsimp only
    split
    · exact same rfl rfl
    · refine deliverPoint fun p => ?_
      split
      · exact evaluateFault s.endPhase p _ .open
      · exact evaluateMeasurement s.endPhase p _ _ _
  · exact same rfl rfl

theorem countComplete (s : State) (frequency : Nat) : s.ChannelsTo (s.countComplete frequency) := by
  unfold State.countComplete
  split
  · split
    · refine deliverRef fun r => ?_
      split
      · exact applyCount s.endPhase r _
      · exact applyRefFault s.endPhase r .refShort
    · exact same rfl rfl
  · exact same rfl rfl

theorem timeBaseLimit (s : State) (frequency : Nat) : s.ChannelsTo (s.timeBaseLimit frequency) := by
  unfold State.timeBaseLimit
  split
  · split
    · exact same rfl rfl
    · exact deliverRef fun r => applyRefFault s.endPhase r .refOpen
  · exact same rfl rfl

theorem latchSupply (s : State) (vdda : Nat) : s.ChannelsTo (s.latchSupply vdda) := by
  unfold State.latchSupply
  split
  · split
    · unfold State.enterPhase
      split <;> exact same rfl rfl
    · unfold State.returnUnrun
      dsimp only
      split
      · exact returnRef (s.setConverter { s.converter with state := .hold }) _ _
      · exact same rfl rfl
  · exact same rfl rfl

theorem endHold (s : State) : s.ChannelsTo s.endHold := by
  unfold State.endHold
  split <;> exact same rfl rfl

theorem dispatchHead (s : State) (e : QueueEntry) : s.ChannelsTo (s.dispatchHead e) := by
  unfold State.dispatchHead
  split
  · split <;> exact same rfl rfl
  · next p _ =>
    split
    · split
      · split
        · exact same rfl rfl
        · exact same rfl rfl
        · exact evaluateFault (s.removeEntry (.point p)) p _ .refFault
        · exact same rfl rfl
      · exact same rfl rfl
    · exact same rfl rfl

theorem dispatched (s : State) : s.ChannelsTo s.dispatched := by
  unfold State.dispatched
  split
  · split
    · exact dispatchHead ..
    · exact same rfl rfl
  · exact same rfl rfl

/-! ### The events of the other units -/

theorem atDuty (s : State) (c : ChannelId) : s.ChannelsTo (s.atDuty c) := by
  unfold State.atDuty
  split
  · exact written .counted
  · exact same rfl rfl

theorem dimEnded (s : State) (c : Column) : s.ChannelsTo (s.dimEnded c) := by
  unfold State.dimEnded
  split <;> exact same rfl rfl

theorem blanked (s : State) : s.ChannelsTo s.blanked := by
  unfold State.blanked
  split <;> exact same rfl rfl

theorem echoed (s : State) (data : Byte) (mark stop : Bool) : s.ChannelsTo (s.echoed data mark stop) := by
  unfold State.echoed
  split
  · exact same rfl rfl
  · split
    · split <;> exact same rfl rfl
    · exact same rfl rfl

/-! ### Every row -/

theorem complete {code : Byte} {command : Byte → List Byte → State → Answer} (he : complete code command s = .next t)
    (hc : ∀ source payload, s.commandedBy source → (command source payload s).Leaves s.ChannelsTo) : s.ChannelsTo t :=
  complete_keeps he (same rfl rfl) (fun _ _ hu => hu) fun f hf => hc f.source f.payload ⟨f, hf, rfl⟩

theorem running (he : running s u = .next t) (hu : s.ChannelsTo u) : s.ChannelsTo t :=
  running_keeps he (same rfl rfl) hu

theorem unknownCommand (he : execUnknownCommand s = .next t) : s.ChannelsTo t := by
  unfold execUnknownCommand at he
  split at he
  · split at he <;> exact Host.Outcome.next.inj he ▸ same rfl rfl
  · exact Host.Outcome.next.inj he ▸ same rfl rfl

theorem resetRelease {addr : BitVec 3} {rate : BitVec 2} (he : execResetRelease addr rate s = .next t) :
    s.ChannelsTo t := by
  unfold execResetRelease at he
  split at he
  · exact Host.Outcome.next.inj he ▸ cleared rfl rfl
  · exact Host.Outcome.next.inj he ▸ same rfl rfl

/-- Every row but a period boundary changes the channels and the claims in one of the ways of `ChannelsChange`. -/
theorem of_exec {i : Instr} (he : exec i s = .next t) (hturn : ∀ c, i ≠ .periodBoundary c) : s.ChannelsTo t := by
  have hsame : s.ChannelsTo s := same rfl rfl
  cases i with
  | definePoint =>
    exact complete he fun _ _ hs => definePoint_leaves fun _ _ _ hv _ _ _ _ _ =>
      leaves_bindingTest_passed fun hn => fillSlot hv hs hn
  | amendPoint =>
    exact complete he fun _ _ _ => amendPoint_leaves fun _ _ _ _ hr _ _ _ _ _ =>
      leaves_bindingTest_passed fun hn => amendSlot hr hn
  | startPoint => exact complete he fun _ _ _ => startPoint_leaves fun _ _ hr _ => start hr
  | stopPoint =>
    exact complete he fun _ _ _ => stopPoint_leaves (fun _ _ hr _ => stopLive hr) fun _ _ hr _ => rewritten hr rfl rfl rfl
  | retirePoint => exact complete he fun _ _ _ => retirePoint_leaves fun _ _ hr => retire hr
  | readPoint => exact complete he fun _ _ _ => readPoint_leaves hsame
  | findTag => exact complete he fun _ _ _ => findTag_leaves hsame
  | listPoints => exact complete he fun _ _ _ => listPoints_leaves hsame
  | offerPoint => exact complete he fun _ _ _ => offerPoint_leaves fun _ _ _ hr _ _ _ => rewritten hr rfl rfl rfl
  | withdrawOffer => exact complete he fun _ _ _ => withdrawOffer_leaves fun _ _ hr => rewritten hr rfl rfl rfl
  | takePoint => exact complete he fun _ _ hs => takePoint_leaves fun _ _ hr _ _ => moveOwner hr (.inl hs)
  | assignOwner =>
    exact complete he fun _ _ _ => assignOwner_leaves fun _ _ _ hr h1 h15 _ => moveOwner hr (.inr ⟨h1, h15⟩)
  | defineRef => exact complete he fun _ _ _ => defineRef_leaves fun _ _ _ _ _ _ _ => same rfl rfl
  | amendRef => exact complete he fun _ _ _ => amendRef_leaves fun _ _ _ _ _ _ _ _ _ _ _ _ => same rfl rfl
  | calibrateRef =>
    exact complete he fun _ _ _ => calibrateRef_leaves fun _ _ _ _ =>
      same (callCalibration_points ..) (callCalibration_channels ..)
  | readRef => exact complete he fun _ _ _ => readRef_leaves hsame
  | retireRef => exact complete he fun _ _ _ => retireRef_leaves fun _ _ _ _ => emptyRef ..
  | measureNow => exact complete he fun _ _ _ => measureNow_leaves fun _ => same rfl rfl
  | measureOwned => exact complete he fun _ _ _ => measureOwned_leaves fun _ => same rfl rfl
  | configureDrive => exact complete he fun _ _ _ => configureDrive_leaves fun _ _ _ hd hf hm => configure hd hf hm
  | setDriveLevels => exact complete he fun _ _ _ => setDriveLevels_leaves fun _ _ => written (.levelled ..)
  | setDrivePeriod => exact complete he fun _ _ _ => setDrivePeriod_leaves fun _ _ hv => written (.period _ hv)
  | setManualDuty => exact complete he fun _ _ _ => setManualDuty_leaves fun _ _ => written (.manual _)
  | enableDrive =>
    exact complete he fun _ _ _ => enableDrive_leaves fun _ hd => written (.enabled _ (by simpa using hd))
  | disableDrive => exact complete he fun _ _ _ => disableDrive_leaves fun _ => written .disabled
  | releaseDrive =>
    exact complete he fun _ _ _ => releaseDrive_leaves fun _ _ hb => written (.released (beq_iff_eq.mp hb))
  | readDrive => exact complete he fun _ _ _ => readDrive_leaves hsame
  | locatePoint => exact complete he fun _ _ _ => locatePoint_leaves fun _ _ _ hr => rewritten hr rfl rfl rfl
  | readNotices => exact complete he fun _ _ _ => readNotices_leaves (noticesRead ..)
  | readStatus => exact complete he fun _ _ _ => readStatus_leaves hsame
  | clearCauses => exact complete he fun _ _ _ => clearCauses_leaves (same rfl rfl)
  | setDevice => exact complete he fun _ _ _ => setDevice_leaves fun _ => same rfl rfl
  | clearTables => exact complete he fun _ _ _ => clearTables_leaves (cleared rfl rfl)
  | unknownCommand => exact unknownCommand he
  | hardwareReset => exact Host.Outcome.next.inj he ▸ cleared rfl rfl
  | resetRelease addr rate => exact resetRelease he
  | scheduleClockStep => exact running he (same rfl rfl)
  | fallingDue => exact running he (same rfl rfl)
  | offerExpiry slot => exact running he (expireOffer s slot)
  | locateExpiry slot => exact running he (expireLocate s slot)
  | freshnessDeadlineExpiry slot => exact running he (expireDeadline s slot)
  | dispatch => exact running he (dispatched s)
  | supplyCheckLatch vdda => exact running he (latchSupply s vdda)
  | holdExpiry => exact running he (endHold s)
  | referenceCountComplete frequency => exact running he (countComplete s frequency)
  | referenceTimeBaseLimit frequency => exact running he (timeBaseLimit s frequency)
  | sensorCountOverflow frequency => exact running he (sensorOverflow s frequency)
  | sensorWindowEnd frequency => exact running he (windowEnd s frequency)
  | periodBoundary channel => exact absurd rfl (hturn channel)
  | rowSlotStart => exact running he (same rfl rfl)
  | cellOnTimeEnd column => exact running he (dimEnded s column)
  | blankingGap => exact running he (blanked s)
  | addressCharacter value => exact running he (same rfl rfl)
  | dataCharacter value => exact running he (same rfl rfl)
  | stopBitError data mark => exact running he (same rfl rfl)
  | idleGap => exact running he (same rfl rfl)
  | lineBreak => exact running he (same rfl rfl)
  | lineRise => exact running he (same rfl rfl)
  | turnaroundEnd => exact running he (same rfl rfl)
  | characterEcho data mark stop => exact running he (echoed s data mark stop)
  | driveDutyCount channel => exact running he (atDuty s channel)

end State.ChannelsTo

end Sys2Proof.Machine

/-! SUPPORT. What keeps the bindings mutual (R146), the channels sound (R132, R137), and the timing of an enabled channel between its
boundaries (R134). -/

namespace Sys2Proof.Machine

/-! ### A period boundary -/

theorem boundaryChannel_frame (duty : Half) (x : DriveChannel) : boundaryChannel duty x = { x with
    activePeriod := x.pendingPeriod.getD x.activePeriod
    activeDuty := (boundaryChannel duty x).activeDuty
    pendingPeriod := none
    pendingDuty := (boundaryChannel duty x).pendingDuty
    counter := 0 } := by
  unfold boundaryChannel
  split <;> rfl

theorem atBoundary_enabled {s : State} {c : ChannelId} (he : s.channels[c].enabled = true) :
    s.atBoundary c = s.setChannel c (boundaryChannel s.followDuty s.channels[c]) := by
  rw [State.atBoundary, if_pos he]

theorem atBoundary_disabled {s : State} {c : ChannelId} (he : s.channels[c].enabled = false) : s.atBoundary c = s := by
  rw [State.atBoundary, he, if_neg Bool.false_ne_true]

theorem atBoundary_self {s : State} {c : ChannelId} (he : s.channels[c].enabled = true) :
    (s.atBoundary c).channels[c] = boundaryChannel s.followDuty s.channels[c] := by
  rw [atBoundary_enabled he, State.setChannel_channels, getElem_setFin, if_pos rfl]

/-- At the boundary of a channel the others stay as they are (R134). -/
theorem atBoundary_other {c d : ChannelId} (h : d ≠ c) (s : State) : (s.atBoundary c).channels[d] = s.channels[d] := by
  cases he : s.channels[c].enabled with
  | false => rw [atBoundary_disabled he]
  | true => rw [atBoundary_enabled he, State.setChannel_channels, getElem_setFin, if_neg h]

theorem atBoundary_claims (s : State) (c : ChannelId) : (s.atBoundary c).claims = s.claims := by
  unfold State.atBoundary
  split <;> rfl

/-! ### The bindings of the points and of the channels name each other (R146) -/

/-- What R146 asks of one channel: the claims of the points that it names and of those that name it. -/
structure DriveChannel.Fits (x : DriveChannel) (claims : Claims) (c : ChannelId) : Prop where
  names : ∀ p, (claims p).bind Claim.binding = some c ↔ x.binding = some p
  mode : x.binding.isSome = true ∨ c = 0 → x.mode = .own
  owned : x.binding.isSome = true → x.owner ≠ 0
  owner : ∀ p, x.binding = some p → (claims p).map Claim.owner = some x.owner

theorem bindingsAgree_iff (s : State) : s.BindingsAgree ↔ ∀ c : ChannelId, s.channels[c].Fits s.claims c := by
  have hbinding : ∀ p : Slot, (s.claims p).bind Claim.binding = (s.points[p]).bind PointRecord.binding := fun p =>
    Option.bind_map ..
  have howner : ∀ p : Slot, (s.claims p).map Claim.owner = (s.points[p]).map PointRecord.owner := fun p => Option.map_map ..
  constructor
  · rintro ⟨hmutual, hbound, hzero⟩ c
    refine ⟨fun p => hbinding p ▸ hmutual p c, ?_, fun hb => ?_, fun p hp => ?_⟩
    · rintro (hb | rfl)
      · obtain ⟨p, hp⟩ := Option.isSome_iff_exists.mp hb
        exact (hbound c p hp).1
      · exact hzero
    · obtain ⟨p, hp⟩ := Option.isSome_iff_exists.mp hb
      exact (hbound c p hp).2.1
    · rw [howner]
      exact (hbound c p hp).2.2
  · intro h
    refine ⟨fun p c => hbinding p ▸ (h c).names p, fun c p hp => ?_, (h 0).mode (.inr rfl)⟩
    have hb := Option.isSome_of_mem hp
    exact ⟨(h c).mode (.inl hb), (h c).owned hb, howner p ▸ (h c).owner p hp⟩

/-- A channel that keeps its binding, and its mode and owner where R146 asks for them, fits as before. -/
theorem DriveChannel.Fits.kept {x y : DriveChannel} {claims : Claims} {c : ChannelId} (h : x.Fits claims c)
    (hb : y.binding = x.binding) (hm : x.binding.isSome = true ∨ c = 0 → x.mode = .own → y.mode = .own)
    (ho : x.binding.isSome = true → x.owner ≠ 0 → y.owner = x.owner) : y.Fits claims c := by
  have howner : x.binding.isSome = true → y.owner = x.owner := fun hs => ho hs (h.owned hs)
  constructor
  · rw [hb]
    exact h.names
  · rw [hb]
    exact fun hs => hm hs (h.mode hs)
  · rw [hb]
    intro hs
    rw [howner hs]
    exact h.owned hs
  · rw [hb]
    intro p hp
    rw [howner (Option.isSome_of_mem hp)]
    exact h.owner p hp

theorem levelledChannel_frame (alarm : Option Alarm) (l : Levels) (x : DriveChannel) :
    levelledChannel alarm l x = { x with levels := l, pendingDuty := (levelledChannel alarm l x).pendingDuty } := by
  unfold levelledChannel
  split
  · dsimp only
    split
    · exact request_frame { x with levels := l } _
    · rfl
  · rfl

theorem manualChannel_frame (duty : Half) (x : DriveChannel) :
    manualChannel duty x = { x with manualDuty := duty, pendingDuty := (manualChannel duty x).pendingDuty } := by
  unfold manualChannel
  dsimp only
  split
  · exact request_frame { x with manualDuty := duty } _
  · rfl

theorem periodChannel_frame (period : Half) (x : DriveChannel) : periodChannel period x = { x with
    activePeriod := (periodChannel period x).activePeriod, pendingPeriod := (periodChannel period x).pendingPeriod } := by
  unfold periodChannel
  split <;> rfl

/-- No row but those of a point writes the binding of a channel. -/
theorem ChannelWrite.fits {x y : DriveChannel} {claims : Claims} {c : ChannelId} (hy : ChannelWrite c x y)
    (h : x.Fits claims c) : y.Fits claims c := by
  cases hy with
  | asked duty =>
    rw [request_frame]
    exact h.kept rfl (fun _ hm => hm) fun _ _ => rfl
  | configured f source he hf hm =>
    refine h.kept rfl (fun hs _ => ?_) fun _ ho => if_neg (mt beq_iff_eq.mp ho)
    cases hmode : modeOf f.mode with
    | own => exact hmode
    | follow =>
      obtain ⟨hc, hb⟩ := hm hmode
      rcases hs with hs | hs
      · rw [hb] at hs
        exact absurd hs Bool.false_ne_true
      · exact absurd hs hc
  | levelled alarm l =>
    rw [levelledChannel_frame]
    exact h.kept rfl (fun _ hm => hm) fun _ _ => rfl
  | manual duty =>
    rw [manualChannel_frame]
    exact h.kept rfl (fun _ hm => hm) fun _ _ => rfl
  | period period hp =>
    rw [periodChannel_frame]
    exact h.kept rfl (fun _ hm => hm) fun _ _ => rfl
  | enabled duty he => exact h.kept rfl (fun _ hm => hm) fun _ _ => rfl
  | disabled => exact h.kept rfl (fun _ hm => hm) fun _ _ => rfl
  | released hb =>
    refine h.kept rfl (fun _ hm => hm) fun hs _ => ?_
    rw [hb] at hs
    exact absurd hs Bool.false_ne_true
  | counted => exact h.kept rfl (fun _ hm => hm) fun _ _ => rfl

/-- A channel that no claim of slot `p` names, before or after, does not see the slot. -/
theorem DriveChannel.Fits.unnamed {x : DriveChannel} {claims : Claims} {c : ChannelId} {p : Slot} {new : Option Claim}
    (h : x.Fits claims c) (hold : (claims p).bind Claim.binding ≠ some c) (hnew : new.bind Claim.binding ≠ some c) :
    x.Fits (Function.update claims p new) c := by
  have hp : x.binding ≠ some p := fun hb => hold ((h.names p).mpr hb)
  refine ⟨fun q => ?_, h.mode, h.owned, fun q hq => ?_⟩
  · by_cases hqp : q = p
    · subst hqp
      rw [Function.update_self]
      exact iff_of_false hnew hp
    · rw [Function.update_of_ne hqp]
      exact h.names q
  · rw [Function.update_of_ne (by rintro rfl; exact hp hq)]
    exact h.owner q hq

/-- A channel that slot `p` leaves is named by no point. -/
theorem DriveChannel.Fits.left {x : DriveChannel} {claims : Claims} {c : ChannelId} {p : Slot} {new : Option Claim}
    (h : x.Fits claims c) (hold : (claims p).bind Claim.binding = some c) (hnew : new.bind Claim.binding ≠ some c) :
    x.left.Fits (Function.update claims p new) c := by
  have hp : x.binding = some p := (h.names p).mp hold
  rw [left_frame]
  refine ⟨fun q => iff_of_false ?_ (by simp), fun _ => h.mode (.inl (Option.isSome_of_mem hp)), by simp, by simp⟩
  by_cases hqp : q = p
  · subst hqp
    rwa [Function.update_self]
  · rw [Function.update_of_ne hqp, h.names q, hp]
    exact fun e => hqp (Option.some.inj e).symm

/-- A channel that was bound to no other slot than `p` becomes that slot's channel. -/
theorem DriveChannel.Fits.taken {x y : DriveChannel} {claims : Claims} {c : ChannelId} {p : Slot} {n : Claim}
    (h : x.Fits claims c) (hn : n.binding = some c) (hfree : x.binding = none ∨ x.binding = some p) (hne : n.owner ≠ 0)
    (hbinding : y.binding = some p) (hmode : y.mode = .own) (howner : y.owner = n.owner) :
    y.Fits (Function.update claims p (some n)) c := by
  refine ⟨fun q => ?_, fun _ => hmode, fun _ => howner ▸ hne, fun q hq => ?_⟩
  · by_cases hqp : q = p
    · subst hqp
      rw [Function.update_self]
      exact iff_of_true hn hbinding
    · have hpq : some p ≠ some q := fun e => hqp (Option.some.inj e).symm
      have hqx : x.binding ≠ some q := by
        rcases hfree with hf | hf <;> rw [hf]
        · exact nofun
        · exact hpq
      rw [Function.update_of_ne hqp, h.names q, hbinding]
      exact iff_of_false hqx hpq
  · obtain rfl : p = q := Option.some.inj (hbinding.symm.trans hq)
    rw [Function.update_self, howner]
    rfl

/-- A channel that the drive binding test of a claim lets through, taken up by its slot (R7, R147). -/
theorem DriveChannel.Fits.rebound {claims : Claims} {channels : ChannelTable} {c : ChannelId} {p : Slot} {new : Option Claim}
    {a : Alarm} (h : channels[c].Fits claims c) (hn : ∀ n ∈ new, n.Passes channels p) (hne : ∀ n ∈ new, n.owner ≠ 0) :
    (channels[c].rebound c ((claims p).bind Claim.binding) (new.bind Claim.binding) p a).Fits
      (Function.update claims p new) c := by
  by_cases hnew : new.bind Claim.binding = some c
  · obtain ⟨n, rfl, hnc⟩ := Option.bind_eq_some_iff.mp hnew
    obtain ⟨howner, hmode, hfree⟩ := hn n rfl c hnc
    rw [rebound_taken hnew, takenUp_frame]
    refine h.taken hnc hfree (hne n rfl) rfl ?_ ?_
    · split
      · rwa [left_frame]
      · exact hmode
    · split
      · rwa [left_frame]
      · exact howner
  · by_cases hold : (claims p).bind Claim.binding = some c
    · rw [rebound_left hnew hold]
      exact h.left hold hnew
    · rw [rebound_other hnew hold]
      exact h.unnamed hold hnew

/-- A point that moves takes its channel with it (R148). -/
theorem DriveChannel.Fits.moved {x : DriveChannel} {claims : Claims} {c : ChannelId} {p : Slot} {m : Claim} {owner : Byte}
    (h : x.Fits claims c) (hm : claims p = some m) (hne : owner ≠ 0) :
    (if m.binding = some c then { x with owner := owner } else x).Fits
      (Function.update claims p (some { m with owner := owner })) c := by
  have hold : (claims p).bind Claim.binding = m.binding := by rw [hm, Option.bind_some]
  split
  · next hc =>
    have hp : x.binding = some p := (h.names p).mp (hold.trans hc)
    exact h.taken (n := { m with owner := owner }) hc (.inr hp) hne hp (h.mode (.inl (Option.isSome_of_mem hp))) rfl
  · next hc => exact h.unnamed (hold ▸ hc) hc

theorem resetChannels_channel (c : ChannelId) :
    (Vector.replicate 8 DriveChannel.reset)[c] = DriveChannel.reset := Vector.getElem_replicate c.isLt

theorem reset_fits (c : ChannelId) : DriveChannel.reset.Fits (fun _ => none) c :=
  ⟨fun _ => iff_of_false nofun nofun, fun _ => rfl, nofun, nofun⟩

/-- Where no row can name owner 0 and no point has it, every channel fits after the row. -/
theorem ChannelsChange.fits {owners : Byte → Prop} {claims claims' : Claims} {channels channels' : ChannelTable}
    (hchange : ChannelsChange owners claims channels claims' channels') (howners : ∀ o, owners o → o ≠ 0)
    (hpoints : ∀ p, ∀ m ∈ claims p, m.owner ≠ 0) (h : ∀ c : ChannelId, channels[c].Fits claims c) (c : ChannelId) :
    channels'[c].Fits claims' c := by
  cases hchange with
  | kept hb hc =>
    subst hb hc
    exact h c
  | written d y hy hb hc =>
    subst hb hc
    rw [getElem_setFin]
    split
    · next e =>
      subst e
      exact hy.fits (h c)
    · exact h c
  | rebound p new a ho hn hb hc =>
    rw [hc c, hb]
    refine (h c).rebound hn fun n hmem => ?_
    rcases ho n hmem with hnamed | ⟨m, hm, he⟩
    · exact howners _ hnamed
    · exact he ▸ hpoints p m hm
  | moved p m owner hm ho hb hc =>
    rw [hc c, hb]
    exact (h c).moved hm (howners owner ho)
  | cleared hb hc =>
    rw [hc, hb, resetChannels_channel]
    exact reset_fits c

/-- A period boundary touches neither binding, mode nor owner. -/
theorem atBoundary_fits {s : State} (h : ∀ c : ChannelId, s.channels[c].Fits s.claims c) (d c : ChannelId) :
    (s.atBoundary d).channels[c].Fits (s.atBoundary d).claims c := by
  rw [atBoundary_claims]
  by_cases hcd : c = d
  · subst hcd
    cases he : s.channels[c].enabled with
    | false =>
      rw [atBoundary_disabled he]
      exact h c
    | true =>
      rw [atBoundary_self he, boundaryChannel_frame]
      exact (h c).kept rfl (fun _ hm => hm) fun _ _ => rfl
  · rw [atBoundary_other hcd]
    exact h c

theorem ne_zero_of_one_le {b : Byte} (h : 1 ≤ b.toNat) : b ≠ 0 := by
  rintro rfl
  exact absurd h (by decide)

/-- A row names sources and controllers of 1-15 alone (R27). -/
theorem canName_ne_zero {s : State} (h : s.SourceSound) {owner : Byte} (ho : s.canName owner) : owner ≠ 0 := by
  rcases ho with ⟨f, hf, rfl⟩ | ⟨h1, -⟩
  · exact ne_zero_of_one_le (h f hf).1
  · exact ne_zero_of_one_le h1

/-- A sound point has an owner of 1-15 (Table 1-1). -/
theorem claim_owner_ne_zero {s : State} (h : s.PointsSound) {p : Slot} {m : Claim} (hm : s.claims p = some m) :
    m.owner ≠ 0 := by
  obtain ⟨r, hr, rfl⟩ := Option.map_eq_some_iff.mp hm
  obtain ⟨hmin, -⟩ := ((sound_iff r).mp (h p r hr)).owner
  exact ne_zero_of_one_le hmin

theorem exec_bindingsAgree {i : Instr} {s t : State} (hs : s.SourceSound) (hp : s.PointsSound) (h : s.BindingsAgree)
    (he : exec i s = .next t) : t.BindingsAgree := by
  rw [bindingsAgree_iff] at h ⊢
  by_cases hturn : ∃ d, i = .periodBoundary d
  · obtain ⟨d, rfl⟩ := hturn
    exact running_keeps (P := fun u => ∀ c : ChannelId, u.channels[c].Fits u.claims c) he h (atBoundary_fits h d)
  · exact (State.ChannelsTo.of_exec he fun d hd => hturn ⟨d, hd⟩).fits (fun _ => canName_ne_zero hs)
      (fun _ _ => claim_owner_ne_zero hp) h

/-- Settles O9: a binding changes on the side of the point and of the channel together, under the drive binding test. -/
theorem bindingsAgreeAfterEveryStep : Obligations.BindingsAgreeAfterEveryStep := by
  intro s t hs hp h he
  rcases step_next he with rfl | ⟨c, rest, -, he⟩
  · exact h
  · exact exec_bindingsAgree (s := { s with pending := rest }) hs hp h he

/-! ### Every channel stays sound (R132, R137) -/

theorem channelSound_iff (x : DriveChannel) : x.sound = true ↔
    (x.enabled = false → x.pendingPeriod = none) ∧ (x.mode = .follow → x.pendingDuty = none) ∧
    2 ≤ x.activePeriod.toNat ∧ ∀ v ∈ x.pendingPeriod, 2 ≤ v.toNat := by
  have hmode : (x.mode == .own) = true ↔ x.mode ≠ .follow := by cases x.mode <;> simp
  have henabled : x.enabled = true ↔ ¬ x.enabled = false := by simp
  simp only [DriveChannel.sound, Bool.and_eq_true, Bool.or_eq_true, hmode, henabled, ne_eq, Option.isNone_iff_eq_none,
    decide_eq_true_eq, Option.all_eq_true, imp_iff_not_or, Option.mem_def, and_assoc]

/-- A request leaves a sound channel sound: a follower takes none (R137). -/
theorem request_sound {x : DriveChannel} (h : x.sound = true) (duty : Half) : (x.request duty).sound = true := by
  cases hm : x.mode with
  | follow => rwa [request_follow hm]
  | own =>
    rw [request_own hm]
    obtain ⟨hperiod, -, hactive, hpending⟩ := (channelSound_iff x).mp h
    exact (channelSound_iff _).mpr ⟨hperiod, fun hf => absurd (hm.symm.trans hf) (by decide), hactive, hpending⟩

theorem left_sound {x : DriveChannel} (h : x.sound = true) : x.left.sound = true :=
  request_sound (x := { x with binding := none }) h _

theorem takenUp_sound {x : DriveChannel} (h : x.sound = true) (p : Slot) (a : Alarm) : (x.takenUp p a).sound = true :=
  request_sound (x := { x with binding := some p }) h _

theorem rebound_sound {x : DriveChannel} (h : x.sound = true) (c : ChannelId) (old new : Option ChannelId) (p : Slot)
    (a : Alarm) : (x.rebound c old new p a).sound = true := by
  have hleft : (if old = some c then x.left else x).sound = true := by
    split
    · exact left_sound h
    · exact h
  unfold DriveChannel.rebound
  split
  · exact takenUp_sound hleft p a
  · exact hleft

theorem ChannelWrite.sound {x y : DriveChannel} {c : ChannelId} (hy : ChannelWrite c x y) (h : x.sound = true) :
    y.sound = true := by
  obtain ⟨hperiod, hduty, hactive, hpending⟩ := (channelSound_iff x).mp h
  cases hy with
  | asked duty => exact request_sound h duty
  | configured f source he hf hm => exact (channelSound_iff _).mpr ⟨hperiod, fun _ => rfl, hf, hpending⟩
  | levelled alarm l =>
    unfold levelledChannel
    split
    · dsimp only
      split
      · exact request_sound (x := { x with levels := l }) h _
      · exact h
    · exact h
  | manual duty =>
    unfold manualChannel
    dsimp only
    split
    · exact request_sound (x := { x with manualDuty := duty }) h _
    · exact h
  | period v hv =>
    unfold periodChannel
    split
    · next he =>
      refine (channelSound_iff _).mpr ⟨fun hd => absurd (he.symm.trans hd) (by decide), hduty, hactive, ?_⟩
      rintro w ⟨⟩
      exact hv
    · exact (channelSound_iff _).mpr ⟨hperiod, hduty, hv, hpending⟩
  | enabled duty he => exact (channelSound_iff _).mpr ⟨fun _ => rfl, fun _ => rfl, hactive, by rintro v ⟨⟩⟩
  | disabled => exact (channelSound_iff _).mpr ⟨fun _ => rfl, fun _ => rfl, hactive, by rintro v ⟨⟩⟩
  | released hb => exact h
  | counted => exact h

/-- At its boundary a channel takes a pending period, which is at least 2 (R132, R134). -/
theorem boundaryChannel_sound {x : DriveChannel} (h : x.sound = true) (duty : Half) :
    (boundaryChannel duty x).sound = true := by
  obtain ⟨-, hduty, hactive, hpending⟩ := (channelSound_iff x).mp h
  have hperiod : 2 ≤ (x.pendingPeriod.getD x.activePeriod).toNat := by
    cases hp : x.pendingPeriod with
    | none => exact hactive
    | some v => exact hpending v hp
  unfold boundaryChannel
  split
  · exact (channelSound_iff _).mpr ⟨fun _ => rfl, fun _ => rfl, hperiod, by rintro v ⟨⟩⟩
  · exact (channelSound_iff _).mpr ⟨fun _ => rfl, hduty, hperiod, by rintro v ⟨⟩⟩

theorem ChannelsChange.sound {owners : Byte → Prop} {claims claims' : Claims} {channels channels' : ChannelTable}
    (hchange : ChannelsChange owners claims channels claims' channels') (h : ∀ c : ChannelId, channels[c].sound = true)
    (c : ChannelId) : channels'[c].sound = true := by
  cases hchange with
  | kept hb hc =>
    rw [hc]
    exact h c
  | written d y hy hb hc =>
    rw [hc, getElem_setFin]
    split
    · exact hy.sound (h d)
    · exact h c
  | rebound p new a ho hn hb hc =>
    rw [hc c]
    exact rebound_sound (h c) ..
  | moved p m owner hm ho hb hc =>
    rw [hc c]
    split
    · exact h c
    · exact h c
  | cleared hb hc =>
    rw [hc, resetChannels_channel]
    rfl

theorem atBoundary_sound {s : State} (h : s.ChannelsSound) (d : ChannelId) : (s.atBoundary d).ChannelsSound := by
  intro c
  by_cases hcd : c = d
  · subst hcd
    cases he : s.channels[c].enabled with
    | false =>
      rw [atBoundary_disabled he]
      exact h c
    | true =>
      rw [atBoundary_self he]
      exact boundaryChannel_sound (h c) _
  · rw [atBoundary_other hcd]
    exact h c

theorem exec_channelsSound {i : Instr} {s t : State} (h : s.ChannelsSound) (he : exec i s = .next t) :
    t.ChannelsSound := by
  by_cases hturn : ∃ d, i = .periodBoundary d
  · obtain ⟨d, rfl⟩ := hturn
    exact running_keeps he h (atBoundary_sound h d)
  · exact (State.ChannelsTo.of_exec he fun d hd => hturn ⟨d, hd⟩).sound h

/-- Settles O14: each way in which a row writes a channel leads from a sound channel to a sound channel. -/
theorem channelsSoundAfterEveryStep : Obligations.ChannelsSoundAfterEveryStep := by
  intro s t h he
  rcases step_next he with rfl | ⟨c, rest, -, he⟩
  · exact h
  · exact exec_channelsSound (s := { s with pending := rest }) h he

/-! ### An enabled channel between its boundaries (R134) -/

/-- A channel that is enabled before and after has its active period and its active duty as before. -/
def DriveChannel.TimingKept (x y : DriveChannel) : Prop :=
  x.enabled = true → y.enabled = true → y.activePeriod = x.activePeriod ∧ y.activeDuty = x.activeDuty

theorem TimingKept.refl (x : DriveChannel) : x.TimingKept x := fun _ _ => ⟨rfl, rfl⟩

theorem TimingKept.of_disabled {x : DriveChannel} (h : x.enabled = false) (y : DriveChannel) : x.TimingKept y :=
  fun hx _ => absurd (hx.symm.trans h) (by decide)

theorem ChannelWrite.timingKept {x y : DriveChannel} {c : ChannelId} (hy : ChannelWrite c x y) : x.TimingKept y := by
  cases hy with
  | asked duty =>
    rw [request_frame]
    exact TimingKept.refl x
  | configured f source he hf hm => exact TimingKept.of_disabled he _
  | levelled alarm l =>
    rw [levelledChannel_frame]
    exact TimingKept.refl x
  | manual duty =>
    rw [manualChannel_frame]
    exact TimingKept.refl x
  | period v hv =>
    intro hx _
    rw [periodChannel, if_pos hx]
    exact ⟨rfl, rfl⟩
  | enabled duty he => exact TimingKept.of_disabled he _
  | disabled => exact fun _ hy => absurd hy Bool.false_ne_true
  | released hb => exact TimingKept.refl x
  | counted => exact TimingKept.refl x

theorem rebound_timingKept (x : DriveChannel) (c : ChannelId) (old new : Option ChannelId) (p : Slot) (a : Alarm) :
    x.TimingKept (x.rebound c old new p a) := by
  unfold DriveChannel.rebound
  rw [takenUp_frame, left_frame]
  split
  · split <;> exact TimingKept.refl x
  · split <;> exact TimingKept.refl x

theorem ChannelsChange.timingKept {owners : Byte → Prop} {claims claims' : Claims} {channels channels' : ChannelTable}
    (hchange : ChannelsChange owners claims channels claims' channels') (c : ChannelId) :
    channels[c].TimingKept channels'[c] := by
  cases hchange with
  | kept hb hc =>
    rw [hc]
    exact TimingKept.refl _
  | written d y hy hb hc =>
    rw [hc, getElem_setFin]
    split
    · next e =>
      subst e
      exact hy.timingKept
    · exact TimingKept.refl _
  | rebound p new a ho hn hb hc =>
    rw [hc c]
    exact rebound_timingKept channels[c] c _ _ p a
  | moved p m owner hm ho hb hc =>
    rw [hc c]
    split <;> exact TimingKept.refl _
  | cleared hb hc =>
    rw [hc, resetChannels_channel]
    exact fun _ hy => absurd hy Bool.false_ne_true

/-- Every row but the boundary of this very channel keeps its timing while it is enabled. -/
theorem exec_timingKept {i : Instr} {s t : State} {c : ChannelId} (hc : i ≠ .periodBoundary c) (he : exec i s = .next t) :
    s.channels[c].TimingKept t.channels[c] := by
  by_cases hturn : ∃ d, i = .periodBoundary d
  · obtain ⟨d, rfl⟩ := hturn
    have hcd : c ≠ d := fun e => hc (e ▸ rfl)
    refine running_keeps (P := fun u => s.channels[c].TimingKept u.channels[c]) he (TimingKept.refl _) ?_
    rw [atBoundary_other hcd]
    exact TimingKept.refl _
  · exact (State.ChannelsTo.of_exec he fun d hd => hturn ⟨d, hd⟩).timingKept c

/-- Settles O16: no other row writes the active period or the active duty of a channel that is enabled and stays so. -/
theorem enabledChannelChangesOnlyAtItsBoundary : Obligations.EnabledChannelChangesOnlyAtItsBoundary := by
  intro s t c he hs ht hhead
  rcases step_next he with rfl | ⟨i, rest, hq, he⟩
  · exact ⟨rfl, rfl⟩
  · refine exec_timingKept (s := { s with pending := rest }) ?_ he hs ht
    rintro rfl
    exact hhead (by rw [hq]; rfl)

end Sys2Proof.Machine

/-! SUPPORT. The drive commands and the events of a channel's counter: what each completes to. -/

namespace Sys2Proof.Machine

/-! ### The source of a drive command (R138) -/

/-- A drive command by the owner or the service controller reaches its channel. -/
theorem onOwnedChannel_admitted {s : State} {source : Byte} {c : ChannelId} (ha : admitted source s.channels[c].owner)
    (rest : ChannelId → Answer) : onOwnedChannel source (channelByte c) s rest = rest c := by
  simp only [onOwnedChannel, onChannel_channelByte, mayChange_of_admitted ha, require_true]

/-! ### CONFIGURE_DRIVE and RELEASE_DRIVE -/

theorem configureDrive_bytes (s : State) (source : Byte) (c : ChannelId) (polarity mode : Byte) (period manual : Half)
    (l : Levels) :
    configureDrive source ([channelByte c, polarity, mode] ++ be16 period ++ l.bytes ++ be16 manual) s =
      configureFields source (channelByte c) ⟨polarity, mode, period, l, manual⟩ s := by
  have hfields := driveFieldsOf_bytes polarity mode period manual l
  simp only [List.cons_append, List.nil_append] at hfields ⊢
  simp only [configureDrive, hfields]

/-- CONFIGURE_DRIVE of an unowned channel, or by the owner or the service controller: three checks are left (R138, R139). -/
theorem configureFields_admitted {s : State} {source : Byte} {c : ChannelId}
    (ho : s.channels[c].owner = 0 ∨ admitted source s.channels[c].owner) (f : DriveFields) :
    configureFields source (channelByte c) f s = require (!s.channels[c].enabled) .channelOn
      (require (flagCoded f.polarity && flagCoded f.mode && decide (2 ≤ f.period.toNat)) .badValue
        (require (!(modeOf f.mode == .follow && (c == 0 || s.channels[c].binding.isSome))) .modeConflict
          (.ok (s.setChannel c (configuredChannel f source s.channels[c])) []))) := by
  have howner : (s.channels[c].owner == 0 || mayChange source s.channels[c].owner) = true := by
    rwa [Bool.or_eq_true, beq_iff_eq, mayChange_iff]
  simp only [configureFields, onChannel_channelByte, howner, require_true]

/-- The value check of CONFIGURE_DRIVE (R139). -/
theorem configurable_iff (f : DriveFields) :
    (flagCoded f.polarity && flagCoded f.mode && decide (2 ≤ f.period.toNat)) = true ↔
      f.polarity.toNat ≤ 1 ∧ f.mode.toNat ≤ 1 ∧ 2 ≤ f.period.toNat := by
  simp only [flagCoded, Bool.and_eq_true, decide_eq_true_eq, and_assoc]

theorem modeOf_follow_iff (b : Byte) : modeOf b = .follow ↔ b = 1 := by
  unfold modeOf
  by_cases h : b = 1 <;> simp [h]

/-- FOLLOW is refused to D0 and to a bound channel (R139, R146). -/
theorem followConflict_iff (mode : Byte) (c : ChannelId) (b : Option Slot) :
    (modeOf mode == .follow && (c == 0 || b.isSome)) = true ↔ mode = 1 ∧ (c = 0 ∨ b ≠ none) := by
  simp only [Bool.and_eq_true, Bool.or_eq_true, beq_iff_eq, modeOf_follow_iff, Option.isSome_iff_ne_none]

/-- The configured channel, field by field (R139). -/
theorem configuredChannel_eq (polarity mode : Byte) (period manual : Half) (l : Levels) (source : Byte) (x : DriveChannel) :
    configuredChannel ⟨polarity, mode, period, l, manual⟩ source x = { x with
      owner := if x.owner = 0 then source else x.owner
      polarity := if polarity = 1 then .activeLow else .activeHigh
      mode := if mode = 1 then .follow else .own
      activePeriod := period
      pendingDuty := none
      levels := l
      manualDuty := manual } := by
  simp only [configuredChannel, polarityOf, modeOf, beq_iff_eq]

/-- RELEASE_DRIVE by the owner or the service controller: two checks are left (R149). -/
theorem releaseDrive_admitted {s : State} {source : Byte} {c : ChannelId} (ha : admitted source s.channels[c].owner) :
    releaseDrive source [channelByte c] s = require (!s.channels[c].enabled) .channelOn
      (require (s.channels[c].binding == none) .inUse (.ok (s.setChannel c { s.channels[c] with owner := 0 }) [])) := by
  simp only [releaseDrive, onOwnedChannel_admitted ha]

/-- Settles O43: each command is down to its last checks, which are passed one by one. -/
theorem channelsAreConfiguredAndReleased : Obligations.ChannelsAreConfiguredAndReleased := by
  constructor
  · intro s kind source c polarity mode period manual l h ho
    have hanswer := (configureDrive_bytes s source c polarity mode period manual l).trans
      (configureFields_admitted ho ⟨polarity, mode, period, l, manual⟩)
    have hvalue := configurable_iff ⟨polarity, mode, period, l, manual⟩
    have hconflict := followConflict_iff mode c s.channels[c].binding
    refine ⟨fun hd hpolarity hmode hperiod hfree => ?_, fun he => ?_, fun hd hbad => ?_, fun hd hpolarity hperiod hmode hc => ?_⟩
    · have hnone : (modeOf mode == .follow && (c == 0 || s.channels[c].binding.isSome)) = false := by
        refine Bool.eq_false_iff.mpr fun hf => ?_
        obtain ⟨hm, hc⟩ := hconflict.mp hf
        obtain ⟨hne, hb⟩ := hfree hm
        exact hc.elim hne fun hbound => hbound hb
      rw [hd, hvalue.mpr ⟨hpolarity, hmode, hperiod⟩, hnone, Bool.not_false, require_true, require_true, require_true,
        configuredChannel_eq] at hanswer
      exact completes_ok rfl h hanswer rfl
    · exact completes_refused rfl h (hanswer ▸ refusedWith_require (by rw [he]; rfl) .channelOn _)
    · rw [hd, Bool.not_false, require_true] at hanswer
      refine completes_refused rfl h (hanswer ▸ refusedWith_require (Bool.eq_false_iff.mpr fun hv => ?_) .badValue _)
      obtain ⟨hpolarity, hmode, hperiod⟩ : polarity.toNat ≤ 1 ∧ mode.toNat ≤ 1 ∧ 2 ≤ period.toNat := hvalue.mp hv
      omega
    · have hcoded : mode.toNat ≤ 1 := by rw [hmode]; decide
      rw [hd, hvalue.mpr ⟨hpolarity, hcoded, hperiod⟩, Bool.not_false, require_true, require_true] at hanswer
      exact completes_refused rfl h
        (hanswer ▸ refusedWith_require (by rw [hconflict.mpr ⟨hmode, hc⟩]; rfl) .modeConflict _)
  · intro s kind source c h ha
    have hanswer := releaseDrive_admitted ha
    refine ⟨fun hd hb => ?_, fun he => ?_, fun hd hb => ?_⟩
    · rw [hd, beq_iff_eq.mpr hb, Bool.not_false, require_true, require_true] at hanswer
      exact completes_ok rfl h hanswer rfl
    · exact completes_refused rfl h (hanswer ▸ refusedWith_require (by rw [he]; rfl) .channelOn _)
    · rw [hd, Bool.not_false, require_true] at hanswer
      exact completes_refused rfl h (hanswer ▸ refusedWith_require (beq_eq_false_iff_ne.mpr hb) .inUse _)

/-! ### SET_DRIVE_LEVELS and SET_MANUAL_DUTY -/

theorem setDriveLevels_admitted {s : State} {source : Byte} {c : ChannelId} (ha : admitted source s.channels[c].owner)
    (l : Levels) : setDriveLevels source (channelByte c :: l.bytes) s = .ok (s.setLevels c l) [] := by
  simp only [setDriveLevels, levelsOf_bytes, onOwnedChannel_admitted ha]

/-- New levels on a bound channel in OWN mode: its called-for level is pending when it has changed (R140). -/
theorem levelledChannel_bound {x : DriveChannel} (h : x.mode = .own) (a : Alarm) (l : Levels) :
    levelledChannel (some a) l x = { x with
      levels := l
      pendingDuty := if levelFor a l = levelFor a x.levels then x.pendingDuty else some (levelFor a l) } := by
  by_cases he : levelFor a l = levelFor a x.levels
  · simp only [levelledChannel, he, bne_self_eq_false, Bool.false_eq_true, if_false, if_true]
  · simp only [levelledChannel, bne_iff_ne.mpr he, if_true, if_neg he]
    exact request_own (x := { x with levels := l }) h _

theorem alarmOf_some {s : State} {p : Slot} {r : PointRecord} (h : s.points[p] = some r) : s.alarmOf p = r.alarm := by
  simp only [State.alarmOf, h]

theorem setManualDuty_admitted {s : State} {source : Byte} {c : ChannelId} (ha : admitted source s.channels[c].owner)
    (duty : Half) : setManualDuty source (channelByte c :: be16 duty) s =
      .ok (s.setChannel c (manualChannel duty s.channels[c])) [] := by
  simp only [setManualDuty, be16, onOwnedChannel_admitted ha, half_be16]

theorem own_or_follow (m : DriveMode) : m = .own ∨ m = .follow := by
  cases m
  · exact .inl rfl
  · exact .inr rfl

/-- A manual duty that has changed is pending on an unbound channel in OWN mode (R141). -/
theorem manualChannel_eq (duty : Half) (x : DriveChannel) : manualChannel duty x = { x with
    manualDuty := duty
    pendingDuty := if x.binding = none ∧ x.mode = .own ∧ duty ≠ x.manualDuty then some duty else x.pendingDuty } := by
  have hasked : (x.binding == none && duty != x.manualDuty) = true ↔ x.binding = none ∧ duty ≠ x.manualDuty := by
    rw [Bool.and_eq_true, beq_iff_eq, bne_iff_ne]
  simp only [manualChannel, hasked]
  by_cases hd : x.binding = none ∧ duty ≠ x.manualDuty
  · rw [if_pos hd]
    obtain ⟨hb, hne⟩ := hd
    rcases own_or_follow x.mode with hm | hm
    · rw [if_pos ⟨hb, hm, hne⟩]
      exact request_own (x := { x with manualDuty := duty }) hm duty
    · rw [if_neg fun h => absurd (hm.symm.trans h.2.1) (by decide)]
      exact request_follow (x := { x with manualDuty := duty }) hm duty
  · rw [if_neg hd, if_neg fun h => hd ⟨h.1, h.2.2⟩]

/-- Settles O44: both commands have one answer to an admitted source; the rest is what each makes of the channel. -/
theorem levelsAndManualDutyAreSet : Obligations.LevelsAndManualDutyAreSet := by
  constructor
  · intro s kind source c l h ha
    have hanswer := setDriveLevels_admitted ha l
    constructor
    · intro p r hb hr hm
      rw [State.setLevels, hb, Option.map_some, alarmOf_some hr, levelledChannel_bound hm] at hanswer
      exact completes_ok rfl h hanswer rfl
    · intro hb
      rw [State.setLevels, hb] at hanswer
      exact completes_ok rfl h hanswer rfl
  · intro s kind source c duty h ha
    have hanswer := setManualDuty_admitted ha duty
    rw [manualChannel_eq] at hanswer
    exact completes_ok rfl h hanswer rfl

/-! ### SET_DRIVE_PERIOD, ENABLE_DRIVE and DISABLE_DRIVE -/

theorem setDrivePeriod_admitted {s : State} {source : Byte} {c : ChannelId} (ha : admitted source s.channels[c].owner)
    (period : Half) : setDrivePeriod source (channelByte c :: be16 period) s =
      require (decide (2 ≤ period.toNat)) .badValue (.ok (s.setChannel c (periodChannel period s.channels[c])) []) := by
  simp only [setDrivePeriod, be16, onOwnedChannel_admitted ha, half_be16]

theorem periodChannel_enabled {x : DriveChannel} (h : x.enabled = true) (period : Half) :
    periodChannel period x = { x with pendingPeriod := some period } := if_pos h

theorem periodChannel_disabled {x : DriveChannel} (h : x.enabled = false) (period : Half) :
    periodChannel period x = { x with activePeriod := period } := by
  rw [periodChannel, h, if_neg Bool.false_ne_true]

theorem enableDrive_admitted {s : State} {source : Byte} {c : ChannelId} (ha : admitted source s.channels[c].owner) :
    enableDrive source [channelByte c] s = require (!s.channels[c].enabled) .channelOn
      (.ok (s.setChannel c (enabledChannel (s.calledFor c) s.channels[c])) []) := by
  simp only [enableDrive, onOwnedChannel_admitted ha]

theorem disableDrive_admitted {s : State} {source : Byte} {c : ChannelId} (ha : admitted source s.channels[c].owner) :
    disableDrive source [channelByte c] s = .ok (s.setChannel c (disabledChannel s.channels[c])) [] := by
  simp only [disableDrive, onOwnedChannel_admitted ha]

/-! The duty that a channel's source calls for (R136). -/

theorem calledFor_follow {s : State} {c : ChannelId} (h : s.channels[c].mode = .follow) : s.calledFor c = s.followDuty := by
  simp only [State.calledFor, h]

theorem calledFor_unbound {s : State} {c : ChannelId} (h : s.channels[c].mode = .own) (hb : s.channels[c].binding = none) :
    s.calledFor c = s.channels[c].manualDuty := by
  simp only [State.calledFor, h, hb]

theorem calledFor_bound {s : State} {c : ChannelId} {p : Slot} {r : PointRecord} (h : s.channels[c].mode = .own)
    (hb : s.channels[c].binding = some p) (hr : s.points[p] = some r) :
    s.calledFor c = levelFor r.alarm s.channels[c].levels := by
  simp only [State.calledFor, h, hb, alarmOf_some hr]

/-- Settles O45: each command is down to its last check, and the starting duty to the source that calls for it. -/
theorem periodsAreSetAndChannelsEnabledAndDisabled : Obligations.PeriodsAreSetAndChannelsEnabledAndDisabled := by
  refine ⟨?_, ?_, ?_⟩
  · intro s kind source c period h ha
    have hanswer := setDrivePeriod_admitted ha period
    refine ⟨fun hp he => ?_, fun hp hd => ?_, fun hp => ?_⟩
    · rw [decide_eq_true hp, require_true, periodChannel_enabled he] at hanswer
      exact completes_ok rfl h hanswer rfl
    · rw [decide_eq_true hp, require_true, periodChannel_disabled hd] at hanswer
      exact completes_ok rfl h hanswer rfl
    · exact completes_refused rfl h
        (hanswer ▸ refusedWith_require (decide_eq_false (Nat.not_le.mpr hp)) .badValue _)
  · intro s kind source c h ha
    have hanswer := enableDrive_admitted ha
    constructor
    · intro duty hd hfollow hunbound hbound
      have hduty : s.calledFor c = duty := by
        cases hm : s.channels[c].mode with
        | follow => rw [calledFor_follow hm, hfollow hm, State.followDuty]
        | own =>
          cases hb : s.channels[c].binding with
          | none => rw [calledFor_unbound hm hb, hunbound hm hb]
          | some p =>
            obtain ⟨r, hr, he⟩ := hbound hm p hb
            rw [calledFor_bound hm hb hr, he]
      rw [hd, Bool.not_false, require_true, hduty] at hanswer
      exact completes_ok rfl h hanswer rfl
    · intro he
      exact completes_refused rfl h (hanswer ▸ refusedWith_require (by rw [he]; rfl) .channelOn _)
  · intro s kind source c h ha
    exact completes_ok rfl h (disableDrive_admitted ha) rfl

/-! ### READ_DRIVE -/

theorem readDrive_channelByte (s : State) (source : Byte) (c : ChannelId) :
    readDrive source [channelByte c] s = .ok s (channelReply c s.channels[c] (s.calledFor c)) := by
  simp only [readDrive, onChannel_channelByte]

/-- Three presence bits are read back from their byte, and the bits above them are 0 (R189). -/
theorem bitsByte_three : ∀ a b c : Bool,
    (bitsByte [a, b, c]).toNat < 8 ∧ (bitsByte [a, b, c]).getLsbD 0 = a ∧ (bitsByte [a, b, c]).getLsbD 1 = b ∧
    (bitsByte [a, b, c]).getLsbD 2 = c := by
  decide

/-- The level of each alarm state, with UNKNOWN and FAULT at the SAFE level (R136). -/
theorem levelFor_table (a : Alarm) (l : Levels) :
    (a = .normal → levelFor a l = l.normal) ∧ (a = .low → levelFor a l = l.low) ∧ (a = .high → levelFor a l = l.high) ∧
    (a = .unknown ∨ a = .fault → levelFor a l = l.safe) := by
  cases a <;> simp [levelFor]

/-- Settles O46: the reply is the 27 bytes in their order; what is left is the presence byte and the called-for duty. -/
theorem readDriveReplyFollowsItsTable : Obligations.ReadDriveReplyFollowsItsTable := by
  refine ⟨⟨rfl, rfl, rfl, fun _ => rfl, fun _ => rfl⟩, ?_⟩
  intro s kind source c h x
  refine ⟨channelReply c x (s.calledFor c), s.calledFor c, completes_ok rfl h (readDrive_channelByte s source c) rfl, ?_⟩
  simp only [channelReply, slice, be16, Levels.bytes, List.cons_append, List.nil_append, List.length_cons, List.length_nil,
    List.drop_succ_cons, List.take_succ_cons, List.drop_zero, List.take_zero, Nat.reduceSub, Nat.reduceAdd, true_and]
  refine ⟨⟨_, rfl, bitsByte_three ..⟩, fun hm => calledFor_follow hm, fun hm hb => calledFor_unbound hm hb,
    fun p r hm hb hr => ?_⟩
  rw [calledFor_bound hm hb hr]
  exact levelFor_table r.alarm x.levels

/-! ### PERIOD_BOUNDARY and DRIVE_DUTY_COUNT -/

theorem boundaryChannel_own {x : DriveChannel} (h : x.mode = .own) (duty : Half) : boundaryChannel duty x = { x with
    activePeriod := x.pendingPeriod.getD x.activePeriod
    activeDuty := x.pendingDuty.getD x.activeDuty
    pendingPeriod := none, pendingDuty := none, counter := 0 } := by
  simp only [boundaryChannel, h]

theorem boundaryChannel_follow {x : DriveChannel} (h : x.mode = .follow) (duty : Half) : boundaryChannel duty x = { x with
    activePeriod := x.pendingPeriod.getD x.activePeriod
    activeDuty := duty
    pendingPeriod := none, counter := 0 } := by
  simp only [boundaryChannel, h]

theorem atDuty_reached {s : State} {c : ChannelId} (he : s.channels[c].enabled = true)
    (hbelow : s.channels[c].counter.toNat < s.channels[c].activeDuty.toNat)
    (hwithin : s.channels[c].activeDuty.toNat < s.channels[c].activePeriod.toNat) :
    s.atDuty c = s.setChannel c { s.channels[c] with counter := s.channels[c].activeDuty } := by
  rw [State.atDuty, if_pos]
  rw [reachesDuty, he, decide_eq_true hbelow, decide_eq_true hwithin]
  rfl

theorem isActive_below {x : DriveChannel} (he : x.enabled = true) (h : x.counter.toNat < x.activeDuty.toNat) :
    x.isActive = true := by
  rw [DriveChannel.isActive, he, decide_eq_true h, Bool.and_self]

theorem isActive_at_duty {x : DriveChannel} (h : x.counter = x.activeDuty) : x.isActive = false := by
  rw [DriveChannel.isActive, h, decide_eq_false (Nat.lt_irrefl _), Bool.and_false]

/-- The pin stands at the active level of its polarity while the output is active, and at the other one otherwise (R133). -/
theorem pinHigh_activeHigh {x : DriveChannel} (h : x.polarity = .activeHigh) : x.pinHigh = x.isActive := by
  simp only [DriveChannel.pinHigh, h]

theorem pinHigh_activeLow {x : DriveChannel} (h : x.polarity = .activeLow) : x.pinHigh = !x.isActive := by
  simp only [DriveChannel.pinHigh, h]

/-- Settles O47: the boundary by the mode of the channel, and the output before and after its duty count. -/
theorem boundariesApplyWhatIsPending : Obligations.BoundariesApplyWhatIsPending := by
  constructor
  · intro s c hreset
    have hrow : exec (.periodBoundary c) s = .next (s.atBoundary c) := running_free hreset _
    rw [hrow]
    refine ⟨fun he hm => ?_, fun he hm => ?_, fun hd => by rw [atBoundary_disabled hd]⟩
    · rw [atBoundary_enabled he, boundaryChannel_own hm]
      rfl
    · rw [atBoundary_enabled he, boundaryChannel_follow hm]
      rfl
  · intro s c hreset he hbelow hwithin
    have hrow : exec (.driveDutyCount c) s = .next (s.atDuty c) := running_free hreset _
    have hchannel : (s.setChannel c { s.channels[c] with counter := s.channels[c].activeDuty }).channels[c] =
        { s.channels[c] with counter := s.channels[c].activeDuty } := by
      rw [State.setChannel_channels, getElem_setFin, if_pos rfl]
    have hbefore := isActive_below he hbelow
    have hafter := isActive_at_duty (x := { s.channels[c] with counter := s.channels[c].activeDuty }) rfl
    refine ⟨hbefore, _, hrow, atDuty_reached he hbelow hwithin, ?_⟩
    rw [atDuty_reached he hbelow hwithin, hchannel]
    refine ⟨hafter, fun hp => ?_, fun hp => ?_⟩
    · rw [pinHigh_activeHigh hp, pinHigh_activeHigh (by exact hp)]
      exact ⟨hbefore, hafter⟩
    · rw [pinHigh_activeLow hp, pinHigh_activeLow (by exact hp), hbefore, hafter]
      exact ⟨rfl, rfl⟩

end Sys2Proof.Machine

/-! SUPPORT. The patterns of a cell and their phases (R155, R156), what the events of a row slot make of the matrix (R153, R154, R157,
R160), and the locate of a point (R158, R159). -/

namespace Sys2Proof.Machine

/-! ### The phases of the clock and the brightness of a pattern (R155, R156) -/

section
variable {t : Clock}

theorem slowLit_of_lit (h : t.toNat % 1000 ≤ 499) : slowLit t = true := decide_eq_true (Nat.lt_succ_of_le h)

theorem slowLit_of_dark (h : 500 ≤ t.toNat % 1000) : slowLit t = false := decide_eq_false (Nat.not_lt.mpr h)

theorem fastLit_of_lit (h : t.toNat % 250 ≤ 124) : fastLit t = true := decide_eq_true (Nat.lt_succ_of_le h)

theorem fastLit_of_dark (h : 125 ≤ t.toNat % 250) : fastLit t = false := decide_eq_false (Nat.not_lt.mpr h)

end

/-- The locate pattern alternates between dim and full (R155). -/
theorem brightness_locate_ne_off (t : Clock) : brightness t .locate ≠ .off := by
  cases h : fastLit t <;> simp [brightness, h]

/-- Settles O21: the steady patterns do not read the clock, and each blink pattern reads one phase of it. -/
theorem patternsHaveTheirBrightness : Obligations.PatternsHaveTheirBrightness := by
  intro t
  refine ⟨rfl, rfl, rfl, fun hlit => ?_, fun hdark => ?_, fun hlit => ?_, fun hdark => ?_, brightness_locate_ne_off t⟩
  · simp [brightness, slowLit_of_lit hlit]
  · simp [brightness, slowLit_of_dark hdark]
  · simp [brightness, fastLit_of_lit hlit]
  · simp [brightness, fastLit_of_dark hdark]

/-! ### The pattern of a slot and the on-time of its cell (R157, R160) -/

/-- Table 8-2, for a slot that is not VACANT (R157). -/
theorem statePattern_table (r : PointRecord) :
    (r.state = .dormant → statePattern (some r) = .dimSteady) ∧
    (r.state = .held → statePattern (some r) = .dimFast) ∧
    (r.state = .live → r.alarm = .unknown → statePattern (some r) = .dimSlow) ∧
    (r.state = .live → r.alarm = .normal → statePattern (some r) = .fullSteady) ∧
    (r.state = .live → r.alarm = .low ∨ r.alarm = .high → statePattern (some r) = .fullSlow) ∧
    (r.state = .live → r.alarm = .fault → statePattern (some r) = .fullFast) := by
  refine ⟨fun hs => ?_, fun hs => ?_, fun hs ha => ?_, fun hs ha => ?_, fun hs ha => ?_, fun hs ha => ?_⟩
  · simp only [statePattern, hs]
  · simp only [statePattern, hs]
  · simp only [statePattern, hs, ha]
  · simp only [statePattern, hs, ha]
  · rcases ha with ha | ha <;> simp only [statePattern, hs, ha]
  · simp only [statePattern, hs, ha]

theorem slotPattern_located {r : PointRecord} (h : r.locate.isSome = true) : slotPattern (some r) = .locate := if_pos h

theorem slotPattern_unlocated {r : PointRecord} (h : r.locate = none) : slotPattern (some r) = statePattern (some r) :=
  if_neg (by rw [Option.bind_some, h]; exact Bool.false_ne_true)

section
variable {settings : Settings}

theorem cellOnTime_disabled (h : settings.matrixEnable = false) (t : Clock) (r : Option PointRecord) :
    cellOnTime settings t r = .off := by
  rw [cellOnTime, h, Bool.not_false, if_pos rfl]

theorem cellOnTime_lampTest (he : settings.matrixEnable = true) (hl : settings.lampTest = true) (t : Clock)
    (r : Option PointRecord) : cellOnTime settings t r = .full := by
  rw [cellOnTime, he, hl, Bool.not_true, if_neg Bool.false_ne_true, if_pos rfl]

theorem cellOnTime_pattern (he : settings.matrixEnable = true) (hl : settings.lampTest = false) (t : Clock)
    (r : Option PointRecord) : cellOnTime settings t r = brightness t (slotPattern r) := by
  rw [cellOnTime, he, hl, Bool.not_true, if_neg Bool.false_ne_true, if_neg Bool.false_ne_true]

end

/-! ### The start of a row slot (R153, R154) -/

theorem nextRow_eq (m : Matrix) : m.nextRow = if m.stage = .slotStart then m.row else m.row + 1 := by
  cases h : m.stage <;> simp [Matrix.nextRow, h]

/-- The start of a row slot writes the matrix alone. -/
theorem rowStarted_frame (s : State) : s.rowStarted = { s with matrix := s.rowStarted.matrix } := rfl

/-- A cell is decided from its slot's record, the clock and the settings as they stand (R154, R160). -/
theorem rowStarted_onTime (s : State) (c : Column) :
    s.rowStarted.matrix.onTimes[c] = cellOnTime s.settings s.clock s.points[cellSlot s.matrix.nextRow c] :=
  Vector.getElem_ofFn ..

/-- A column driver is active from the start of the slot unless its cell is off (R153). -/
theorem rowStarted_columnLow (s : State) (c : Column) :
    s.rowStarted.columnLow c = true ↔ s.rowStarted.matrix.onTimes[c] ≠ .off := by
  have hcolumn : s.rowStarted.columnLow c = (s.rowStarted.matrix.onTimes[c] != .off) := Vector.getElem_map ..
  rw [hcolumn, bne_iff_ne]

/-- Of the row drivers only that of the slot's row is active, and only while the matrix is enabled (R153, R160). -/
theorem rowStarted_rowHigh (s : State) (r : Fin 6) :
    s.rowStarted.rowHigh r = (decide (r = s.matrix.nextRow) && s.settings.matrixEnable) := by
  have hrow : s.rowStarted.rowHigh r = (decide (s.matrix.nextRow = r) && true && s.settings.matrixEnable) := rfl
  rw [hrow, Bool.and_true, decide_eq_decide.mpr eq_comm]

/-- The on-time of the cell of slot P(8r + c), when neither setting overrides the points. -/
theorem rowStarted_shows {s : State} (he : s.settings.matrixEnable = true) (hl : s.settings.lampTest = false) {c : Column}
    {p : Slot} (hp : p.val = 8 * s.matrix.nextRow.val + c.val) :
    s.rowStarted.matrix.onTimes[c] = brightness s.clock (slotPattern s.points[p]) := by
  obtain rfl : p = cellSlot s.matrix.nextRow c := Fin.ext hp
  rw [rowStarted_onTime, cellOnTime_pattern he hl]

/-! ### The end of an on-time and the blanking gap (R153) -/

theorem dimEnded_dim {s : State} {c : Column} (hlit : s.matrix.stage = .lit) (hdim : s.matrix.onTimes[c] = .dim) :
    s.dimEnded c = s.setMatrix { s.matrix with columns := s.matrix.columns.set c false } := by
  rw [State.dimEnded, hlit, hdim]
  rfl

theorem blanked_lit {s : State} (hlit : s.matrix.stage = .lit) :
    s.blanked = s.setMatrix { s.matrix with stage := .blanking, columns := Vector.replicate 8 false } := by
  rw [State.blanked, hlit]
  rfl

/-- Settles O22: the slot's row and drivers, then each cell by the settings, its locate and the state of its point. -/
theorem rowSlotsShowThePoints : Obligations.RowSlotsShowThePoints := by
  refine ⟨?_, ?_, ?_⟩
  · intro s hreset row
    have hexec : exec .rowSlotStart s = .next s.rowStarted := running_free hreset _
    have hrow : s.matrix.nextRow = row := nextRow_eq s.matrix
    refine ⟨s.rowStarted, hexec, rowStarted_frame s, hrow, rfl, rfl, rfl, fun r => hrow ▸ rowStarted_rowHigh s r, fun c => ?_⟩
    refine ⟨rowStarted_columnLow s c, fun hoff => ?_, fun he hl => ?_, fun he hl p hp => ?_⟩
    · rw [rowStarted_onTime, cellOnTime_disabled hoff]
    · rw [rowStarted_onTime, cellOnTime_lampTest he hl]
    · rw [rowStarted_shows he hl (hrow ▸ hp)]
      refine ⟨fun hvacant => by rw [hvacant]; rfl, fun r hr => ?_⟩
      obtain ⟨hdormant, hheld, hunknown, hnormal, hband, hfault⟩ := statePattern_table r
      rw [hr]
      refine ⟨fun hlocate => by rw [slotPattern_located hlocate], fun hnone => ?_⟩
      rw [slotPattern_unlocated hnone]
      exact ⟨fun hs => by rw [hdormant hs]; rfl, fun hs => by rw [hheld hs], fun hs ha => by rw [hunknown hs ha],
        fun hs ha => by rw [hnormal hs ha]; rfl, fun hs ha => by rw [hband hs ha], fun hs ha => by rw [hfault hs ha]⟩
  · intro s c hreset hlit hdim
    have hexec : exec (.cellOnTimeEnd c) s = .next (s.dimEnded c) := running_free hreset _
    rw [hexec, dimEnded_dim hlit hdim, State.setMatrix]
  · intro s hreset hlit
    have hexec : exec .blankingGap s = .next s.blanked := running_free hreset _
    rw [hexec, blanked_lit hlit, State.setMatrix]

/-! ### The locate of a point (R158, R159) -/

section
variable {s : State} {p : Slot} {r : PointRecord}

/-- LOCATE_POINT of a point asks for no owner: what is left is the value check and whether the duration is 0 (R158). -/
theorem locatePoint_slotByte (hr : s.points[p] = some r) (source seconds : Byte) :
    locatePoint source [slotByte p, seconds] s = require (decide (seconds.toNat ≤ 60)) .badValue
      (if seconds = 0 then .ok (s.setPoint p (some { r with locate := none })) [0, 0, 0, 0, 0]
      else .ok (s.setPoint p (some { r with locate := some (s.clock + secondsMs (seconds.setWidth 32)) }))
        (1 :: be32 (s.clock + secondsMs (seconds.setWidth 32)))) := by
  simp only [locatePoint, onPoint_some hr, beq_iff_eq]

theorem expireLocate_due {t : Clock} (hr : s.points[p] = some r) (ht : r.locate = some t)
    (hdue : atOrBefore t s.clock = true) : s.expireLocate p = s.setPoint p (some { r with locate := none }) := by
  simp only [State.expireLocate, hr, ht, hasCome, hdue, if_true]

/-- Of a point without a locate, or with one whose time is still to come, nothing expires (R159, log 2). -/
theorem expireLocate_waiting (hr : s.points[p] = some r)
    (h : r.locate = none ∨ ∃ t, r.locate = some t ∧ atOrBefore t s.clock = false) : s.expireLocate p = s := by
  have hwaits : hasCome r.locate s.clock = false := by
    rcases h with hnone | ⟨t, ht, hearly⟩
    · rw [hnone, hasCome]
    · rw [ht, hasCome, hearly]
  simp only [State.expireLocate, hr, hwaits, Bool.false_eq_true, if_false]

end

/-- Settles O31: the command is down to its value check and its duration, the expiry to the locate and its time. -/
theorem locatesAreSetCancelledAndExpire : Obligations.LocatesAreSetCancelledAndExpire := by
  constructor
  · intro s kind source seconds p r h hr
    have hanswer := locatePoint_slotByte hr source seconds
    refine ⟨fun hpos hle => ?_, fun hzero => ?_, fun hlong => ?_⟩
    · have hne : seconds ≠ 0 := by
        rintro rfl
        exact absurd hpos (by decide)
      rw [decide_eq_true hle, require_true, if_neg hne] at hanswer
      exact completes_ok rfl h hanswer rfl
    · subst hzero
      exact completes_ok rfl h hanswer rfl
    · exact completes_refused rfl h
        (hanswer ▸ refusedWith_require (decide_eq_false (Nat.not_le.mpr hlong)) .badValue _)
  · intro s p r hreset hr
    have hexec : exec (.locateExpiry p) s = .next (s.expireLocate p) := running_free hreset _
    rw [hexec]
    exact ⟨fun t ht hdue => congrArg _ (expireLocate_due hr ht hdue),
      fun t ht hearly => congrArg _ (expireLocate_waiting hr (.inr ⟨t, ht, hearly⟩)),
      fun hnone => congrArg _ (expireLocate_waiting hr (.inl hnone))⟩

end Sys2Proof.Machine

/-! SUPPORT. The notice set stays within notifying points and defined references (R162): which operations on the tables keep it
so, and that every row does. -/

namespace Sys2Proof.Machine

theorem setPoint_points_self (s : State) (p : Slot) (n : Option PointRecord) : (s.setPoint p n).points[p] = n := by
  rw [State.setPoint_points, getElem_setFin, if_pos rfl]

/-! ### A slot leaves the notice set before or after its point is unbound -/

theorem loseUser_leavePoint (s : State) (r : RefId) (p : Slot) :
    (s.loseUser r).leavePoint p = (s.leavePoint p).loseUser r := by
  cases hx : s.refs[r] with
  | none => simp only [State.loseUser, State.leavePoint, State.setNoticePoint_refs, hx]
  | some x =>
    rw [loseUser_some hx, loseUser_some (s := s.leavePoint p) hx]
    rfl

theorem unbindChannel_leavePoint (s : State) (b : Option ChannelId) (p : Slot) :
    (s.unbindChannel b).leavePoint p = (s.leavePoint p).unbindChannel b := by
  cases b <;> rfl

/-! ### What READ_NOTICES leaves of the notice set (R165) -/

@[simp] theorem noticesRead_refs (s : State) (source : Byte) : (s.noticesRead source).refs = s.refs := by
  unfold State.noticesRead
  rfl

theorem noticesRead_noticePoint (s : State) (source : Byte) (p : Slot) :
    (s.noticesRead source).noticePoints[p] = true ↔ s.noticePoints[p] = true ∧ ¬ s.readsPoint source p = true := by
  have hmark : (s.noticesRead source).noticePoints[p] = (s.noticePoints[p] && !s.readsPoint source p) := by
    unfold State.noticesRead
    exact Vector.getElem_ofFn ..
  rw [hmark, Bool.and_eq_true, Bool.not_eq_true', Bool.not_eq_true]

theorem noticesRead_noticeRef (s : State) (source : Byte) (r : RefId) :
    (s.noticesRead source).noticeRefs[r] = true ↔ s.noticeRefs[r] = true ∧ ¬ s.readsRef source r = true := by
  have hmark : (s.noticesRead source).noticeRefs[r] = (s.noticeRefs[r] && !s.readsRef source r) := by
    unfold State.noticesRead
    exact Vector.getElem_ofFn ..
  rw [hmark, Bool.and_eq_true, Bool.not_eq_true', Bool.not_eq_true]

namespace State.NoticesBacked

variable {s t : State} {p : Slot} {r : RefId}

/-! ### Writes of one record and of one mark -/

/-- A slot is written; if it is a member, with a notifying point. -/
theorem setPoint (h : s.NoticesBacked) {n : Option PointRecord}
    (hn : s.noticePoints[p] = true → n.any PointRecord.notify = true) : (s.setPoint p n).NoticesBacked := by
  obtain ⟨hpoints, hrefs⟩ := h
  refine ⟨fun k hk => ?_, hrefs⟩
  rw [State.setPoint_points, getElem_setFin]
  split
  · next e => exact hn (e ▸ hk)
  · exact hpoints k hk

/-- A record is written that keeps its notify flag. -/
theorem rewritten (h : s.NoticesBacked) {q n : PointRecord} (hq : s.points[p] = some q) (hn : n.notify = q.notify) :
    (s.setPoint p (some n)).NoticesBacked := by
  refine h.setPoint fun hp => ?_
  obtain ⟨hpoints, -⟩ := h
  have hold := hpoints p hp
  rw [hq] at hold
  exact hn.trans hold

theorem setRef (h : s.NoticesBacked) (r : RefId) (x : RefRecord) : (s.setRef r (some x)).NoticesBacked := by
  obtain ⟨hpoints, hrefs⟩ := h
  refine ⟨hpoints, fun k hk => ?_⟩
  rw [State.setRef_refs, getElem_setFin]
  split
  · rfl
  · exact hrefs k hk

theorem joinPoint (h : s.NoticesBacked) {q : PointRecord} (hq : s.points[p] = some q) (hn : q.notify = true) :
    (s.joinPoint p).NoticesBacked := by
  obtain ⟨hpoints, hrefs⟩ := h
  refine ⟨fun k hk => ?_, hrefs⟩
  rw [State.joinPoint, State.setNoticePoint_noticePoints, getElem_setFin] at hk
  split at hk
  · next e =>
    subst e
    rw [State.joinPoint, State.setNoticePoint_points, hq]
    exact hn
  · exact hpoints k hk

theorem leavePoint (h : s.NoticesBacked) (p : Slot) : (s.leavePoint p).NoticesBacked := by
  obtain ⟨hpoints, hrefs⟩ := h
  refine ⟨fun k hk => ?_, hrefs⟩
  rw [State.leavePoint, State.setNoticePoint_noticePoints, getElem_setFin] at hk
  split at hk
  · cases hk
  · exact hpoints k hk

theorem joinRef (h : s.NoticesBacked) (hr : (s.refs[r]).isSome = true) : (s.joinRef r).NoticesBacked := by
  obtain ⟨hpoints, hrefs⟩ := h
  refine ⟨hpoints, fun k hk => ?_⟩
  rw [State.joinRef, State.setNoticeRef_noticeRefs, getElem_setFin] at hk
  split at hk
  · next e => exact e ▸ hr
  · exact hrefs k hk

/-- A slot leaves the notice set and its record is replaced by any other, or by none. -/
theorem replaced (h : s.NoticesBacked) (p : Slot) (n : Option PointRecord) :
    ((s.leavePoint p).setPoint p n).NoticesBacked := by
  refine (h.leavePoint p).setPoint fun hp => ?_
  rw [State.leavePoint, State.setNoticePoint_noticePoints, getElem_setFin, if_pos rfl] at hp
  cases hp

/-- A reference leaves the notice set and becomes EMPTY. -/
theorem emptied (h : s.NoticesBacked) (r : RefId) : ((s.leaveRef r).setRef r none).NoticesBacked := by
  obtain ⟨hpoints, hrefs⟩ := h
  refine ⟨hpoints, fun k hk => ?_⟩
  rw [State.setRef_noticeRefs, State.leaveRef, State.setNoticeRef_noticeRefs, getElem_setFin] at hk
  rw [State.setRef_refs, getElem_setFin]
  split at hk
  · cases hk
  · next hne =>
    rw [if_neg hne]
    exact hrefs k hk

/-- A part without members. -/
theorem cleared (hp : t.noticePoints = Vector.replicate 48 false) (hr : t.noticeRefs = Vector.replicate 4 false) :
    t.NoticesBacked := by
  simp [State.NoticesBacked, hp, hr]

/-! ### The counts of a reference and the requests to a channel -/

theorem gainUser (h : s.NoticesBacked) (r : RefId) : (s.gainUser r).NoticesBacked := by
  unfold State.gainUser
  split
  · exact h.setRef r _
  · exact h

theorem loseUser (h : s.NoticesBacked) (r : RefId) : (s.loseUser r).NoticesBacked := by
  unfold State.loseUser
  split
  · exact h.setRef r _
  · exact h

theorem gainLiveUser (h : s.NoticesBacked) (r : RefId) : (s.gainLiveUser r).NoticesBacked := by
  unfold State.gainLiveUser
  split
  · dsimp only
    split <;> exact h.setRef r _
  · exact h

theorem loseLiveUser (h : s.NoticesBacked) (r : RefId) : (s.loseLiveUser r).NoticesBacked := by
  unfold State.loseLiveUser
  split
  · dsimp only
    split <;> exact h.setRef r _
  · exact h

theorem requestLevel (h : s.NoticesBacked) (b : Option ChannelId) (a : Alarm) : (s.requestLevel b a).NoticesBacked := by
  rw [requestLevel_frame]
  exact h

theorem bindChannel (h : s.NoticesBacked) (b : Option ChannelId) (p : Slot) (a : Alarm) :
    (s.bindChannel b p a).NoticesBacked := by
  rw [bindChannel_frame]
  exact h

theorem unbindChannel (h : s.NoticesBacked) (b : Option ChannelId) : (s.unbindChannel b).NoticesBacked := by
  rw [unbindChannel_frame]
  exact h

theorem withdraw (h : s.NoticesBacked) (p : Slot) : (s.withdraw p).NoticesBacked := by
  rw [withdraw_eq]
  exact h

/-- A change of the judgement is announced of a record that keeps its notify flag. -/
theorem announce (h : s.NoticesBacked) {q n : PointRecord} (hp : s.points[p] = some n) (hn : n.notify = q.notify) (a : Alarm) :
    (s.announce p q a).NoticesBacked := by
  unfold State.announce
  refine requestLevel ?_ _ _
  split
  · next hq => exact h.joinPoint hp (hn.trans hq)
  · exact h

/-! ### The commands -/

/-- No vacant slot is a member. -/
theorem fillSlot (h : s.NoticesBacked) (hv : s.points[p] = none) (n : PointRecord) : (s.fillSlot p n).NoticesBacked := by
  have hfilled : ((s.setPoint p (some n)).setTag p (some n.tag)).NoticesBacked := by
    refine h.setPoint fun hp => ?_
    obtain ⟨hpoints, -⟩ := h
    have hold := hpoints p hp
    rw [hv] at hold
    cases hold
  exact (hfilled.gainUser _).bindChannel _ _ _

/-- A point whose notify flag goes off leaves the notice set (R164). -/
theorem amendSlot (h : s.NoticesBacked) {q : PointRecord} (hq : s.points[p] = some q) (n : PointRecord) :
    (s.amendSlot p q n).NoticesBacked := by
  unfold State.amendSlot
  extract_lets s1 s2 s3 s4
  have hnotice : s3.NoticesBacked := by
    have htag : s2 = { s1 with tagMap := s2.tagMap } := by dsimp only [s2]; split <;> rfl
    dsimp only [s3]
    rw [htag]
    split
    · exact h.replaced p (some n)
    · next hkeeps =>
      refine h.setPoint (n := some n) fun hp => ?_
      obtain ⟨hpoints, -⟩ := h
      have hold := hpoints p hp
      rw [hq] at hold
      simpa [show q.notify = true from hold] using hkeeps
  have hbinding : s4.NoticesBacked := by
    dsimp only [s4]
    split
    · exact (hnotice.unbindChannel _).bindChannel _ _ _
    · exact hnotice
  split
  · exact (hbinding.loseUser _).gainUser _
  · exact hbinding

theorem start (h : s.NoticesBacked) {q : PointRecord} (hq : s.points[p] = some q) : (s.start p q).NoticesBacked := by
  refine (gainLiveUser ?_ _).requestLevel _ _
  exact h.rewritten hq rfl

theorem stopLive (h : s.NoticesBacked) {q : PointRecord} (hq : s.points[p] = some q) : (s.stopLive p q).NoticesBacked := by
  refine (loseLiveUser ?_ _).requestLevel _ _
  exact (h.withdraw p).rewritten (q := q) (by rwa [withdraw_points]) rfl

/-- A slot that becomes VACANT leaves the notice set (R164). -/
theorem retire (h : s.NoticesBacked) (p : Slot) (q : PointRecord) : (s.retire p q).NoticesBacked := by
  have hleft : (if q.state == .live then (s.withdraw p).loseLiveUser q.reference else s).NoticesBacked := by
    split
    · exact (h.withdraw p).loseLiveUser _
    · exact h
  unfold State.retire
  dsimp only
  rw [unbindChannel_leavePoint, loseUser_leavePoint]
  refine (loseUser ?_ _).unbindChannel _
  exact hleft.replaced p none

theorem moveOwner (h : s.NoticesBacked) {q : PointRecord} (hq : s.points[p] = some q) (owner : Byte) :
    (s.moveOwner p q owner).NoticesBacked := by
  rw [State.moveOwner, moveChannelOwner_frame]
  exact h.rewritten hq rfl

theorem callCalibration (h : s.NoticesBacked) (r : RefId) : (s.callCalibration r).NoticesBacked := by
  unfold State.callCalibration
  split
  · split <;> exact h
  · exact h

/-- A reference that becomes EMPTY leaves the notice set (R164). -/
theorem emptyRef (h : s.NoticesBacked) (r : RefId) : (s.emptyRef r).NoticesBacked := by
  rw [State.emptyRef, abortJob_eq]
  exact h.emptied r

theorem noticesRead (h : s.NoticesBacked) (source : Byte) : (s.noticesRead source).NoticesBacked := by
  obtain ⟨hpoints, hrefs⟩ := h
  refine ⟨fun k hk => ?_, fun k hk => ?_⟩
  · rw [noticesRead_points]
    exact hpoints k ((noticesRead_noticePoint ..).mp hk).1
  · rw [noticesRead_refs]
    exact hrefs k ((noticesRead_noticeRef ..).mp hk).1

/-! ### The timed fields and the outcomes of a job -/

theorem expireDeadline (h : s.NoticesBacked) (p : Slot) : (s.expireDeadline p).NoticesBacked := by
  unfold State.expireDeadline
  split
  · next q hq =>
    split
    · split
      · exact h.rewritten hq rfl
      · refine announce (n := { q with quality := .stale, alarm := .fault, deadline := none }) ?_ ?_ rfl _
        · exact h.rewritten hq rfl
        · exact setPoint_points_self ..
    · exact h
  · exact h

theorem expireOffer (h : s.NoticesBacked) (p : Slot) : (s.expireOffer p).NoticesBacked := by
  unfold State.expireOffer
  split
  · next q hq =>
    split
    · have hwritten : (s.setPoint p (some { q with offer := none })).NoticesBacked := h.rewritten hq rfl
      dsimp only
      split
      · next hn => exact hwritten.joinPoint (setPoint_points_self ..) hn
      · exact hwritten
    · exact h
  · exact h

theorem expireLocate (h : s.NoticesBacked) (p : Slot) : (s.expireLocate p).NoticesBacked := by
  unfold State.expireLocate
  split
  · next q hq =>
    split
    · exact h.rewritten hq rfl
    · exact h
  · exact h

theorem evaluateMeasurement (h : s.NoticesBacked) (p : Slot) (start : Clock) (v : Half) (g : Quality) :
    (s.evaluateMeasurement p start v g).NoticesBacked := by
  unfold State.evaluateMeasurement
  split
  · next q hq =>
    have hwritten : (s.setPoint p (some (measuredRecord q v g s.clock))).NoticesBacked := h.rewritten hq rfl
    dsimp only
    split
    · refine announce (n := measuredRecord q v g s.clock) ?_ ?_ rfl _
      · exact hwritten
      · exact setPoint_points_self ..
    · exact hwritten
  · exact h

theorem evaluateFault (h : s.NoticesBacked) (p : Slot) (start : Clock) (g : Quality) :
    (s.evaluateFault p start g).NoticesBacked := by
  unfold State.evaluateFault
  split
  · next q hq =>
    have hwritten : (s.setPoint p (some (faultedRecord q g))).NoticesBacked := h.rewritten hq rfl
    dsimp only
    split
    · split
      · refine (hwritten.loseLiveUser _).announce (n := faultedRecord q g) ?_ rfl _
        rw [loseLiveUser_points, setPoint_points_self]
      · refine announce (n := faultedRecord q g) ?_ ?_ rfl _
        · exact hwritten
        · exact setPoint_points_self ..
    · split
      · exact hwritten.loseLiveUser _
      · exact hwritten
  · exact h

/-- A reference that joins the notice set has delivered an outcome, so it is defined (R58, R163). -/
theorem applyCount (h : s.NoticesBacked) (r : RefId) (n : BitVec 22) : (s.applyCount r n).NoticesBacked := by
  unfold State.applyCount
  split
  · next x _ =>
    have hwritten := h.setRef r (calibratedRef x n s.clock)
    have hjoined : (if x.prior == some .faulted then (s.setRef r (some (calibratedRef x n s.clock))).joinRef r
        else s.setRef r (some (calibratedRef x n s.clock))).NoticesBacked := by
      split
      · exact hwritten.joinRef (by rw [State.setRef_refs, getElem_setFin, if_pos rfl]; rfl)
      · exact hwritten
    dsimp only
    split <;> exact hjoined
  · exact h

theorem applyRefFault (h : s.NoticesBacked) (r : RefId) (f : RefFault) : (s.applyRefFault r f).NoticesBacked := by
  unfold State.applyRefFault
  split
  · next x _ =>
    have hjoined := (h.setRef r (failedRef x f s.clock)).joinRef (r := r)
      (by rw [State.setRef_refs, getElem_setFin, if_pos rfl]; rfl)
    dsimp only
    split <;> exact hjoined
  · exact h

theorem returnRef (h : s.NoticesBacked) (r : RefId) (due : Clock) : (s.returnRef r due).NoticesBacked := by
  unfold State.returnRef
  split
  · dsimp only
    split <;> exact h.setRef r _
  · exact h

/-! ### The events of the converter and the due queue -/

theorem deliverPoint {j : Job} {outcome : Slot → State → State} (h : s.NoticesBacked)
    (ho : ∀ p, (outcome p s).NoticesBacked) : (s.deliverPoint j outcome).NoticesBacked := by
  unfold State.deliverPoint
  split
  · exact ho _
  · exact h

theorem deliverRef {j : Job} {outcome : RefId → State → State} (h : s.NoticesBacked)
    (ho : ∀ r, (outcome r s).NoticesBacked) : (s.deliverRef j outcome).NoticesBacked := by
  unfold State.deliverRef
  split
  · exact ho _
  · exact h

/-- The end of a phase touches the converter alone. -/
theorem endPhase (h : s.NoticesBacked) : s.endPhase.NoticesBacked := h

theorem sensorOverflow (h : s.NoticesBacked) (frequency : Nat) : (s.sensorOverflow frequency).NoticesBacked := by
  unfold State.sensorOverflow
  split
  · split
    · exact h.endPhase.deliverPoint fun p => h.endPhase.evaluateFault p _ .short
    · exact h
  · exact h

theorem windowEnd (h : s.NoticesBacked) (frequency : Nat) : (s.windowEnd frequency).NoticesBacked := by
  unfold State.windowEnd
  split
  · dsimp only
    split
    · exact h
    · refine h.endPhase.deliverPoint fun p => ?_
      split
      · exact h.endPhase.evaluateFault p _ .open
      · exact h.endPhase.evaluateMeasurement p _ _ _
  · exact h

theorem countComplete (h : s.NoticesBacked) (frequency : Nat) : (s.countComplete frequency).NoticesBacked := by
  unfold State.countComplete
  split
  · split
    · refine h.endPhase.deliverRef fun r => ?_
      split
      · exact h.endPhase.applyCount r _
      · exact h.endPhase.applyRefFault r .refShort
    · exact h
  · exact h

theorem timeBaseLimit (h : s.NoticesBacked) (frequency : Nat) : (s.timeBaseLimit frequency).NoticesBacked := by
  unfold State.timeBaseLimit
  split
  · split
    · exact h
    · exact h.endPhase.deliverRef fun r => h.endPhase.applyRefFault r .refOpen
  · exact h

theorem latchSupply (h : s.NoticesBacked) (vdda : Nat) : (s.latchSupply vdda).NoticesBacked := by
  unfold State.latchSupply
  split
  · split
    · unfold State.enterPhase
      split <;> exact h
    · unfold State.returnUnrun
      dsimp only
      split
      · exact returnRef (s := s.setConverter { s.converter with state := .hold }) h _ _
      · exact h
  · exact h

theorem handRef (h : s.NoticesBacked) (r : RefId) (x : RefRecord) (due : Clock) : (s.handRef r x due).NoticesBacked :=
  h.setRef r (startedRef x)

theorem dispatchHead (h : s.NoticesBacked) (e : QueueEntry) : (s.dispatchHead e).NoticesBacked := by
  unfold State.dispatchHead
  split
  · split
    · exact h.handRef _ _ _
    · exact h
  · next p _ =>
    split
    · split
      · split
        · exact h
        · exact h.handRef _ _ _
        · exact evaluateFault (s := s.removeEntry (.point p)) h p _ .refFault
        · exact h
      · exact h
    · exact h

theorem dispatched (h : s.NoticesBacked) : s.dispatched.NoticesBacked := by
  unfold State.dispatched
  split
  · split
    · exact h.dispatchHead _
    · exact h
  · exact h

theorem endHold (h : s.NoticesBacked) : s.endHold.NoticesBacked := by
  unfold State.endHold
  split <;> exact h

/-! ### The events of the other units touch neither the tables nor the notice set -/

theorem atBoundary (h : s.NoticesBacked) (c : ChannelId) : (s.atBoundary c).NoticesBacked := by
  unfold State.atBoundary
  split <;> exact h

theorem atDuty (h : s.NoticesBacked) (c : ChannelId) : (s.atDuty c).NoticesBacked := by
  unfold State.atDuty
  split <;> exact h

theorem dimEnded (h : s.NoticesBacked) (c : Column) : (s.dimEnded c).NoticesBacked := by
  unfold State.dimEnded
  split <;> exact h

theorem blanked (h : s.NoticesBacked) : s.blanked.NoticesBacked := by
  unfold State.blanked
  split <;> exact h

theorem echoed (h : s.NoticesBacked) (data : Byte) (mark stop : Bool) : (s.echoed data mark stop).NoticesBacked := by
  unfold State.echoed
  split
  · exact h
  · split
    · split <;> exact h
    · exact h

/-! ### Every row -/

theorem complete {code : Byte} {command : Byte → List Byte → State → Answer} (h : s.NoticesBacked)
    (he : complete code command s = .next t)
    (hc : ∀ source payload, (command source payload s).Leaves State.NoticesBacked) : t.NoticesBacked :=
  complete_keeps he h (fun _ _ hu => hu) fun f _ => hc f.source f.payload

theorem running (h : s.NoticesBacked) {u : State} (he : running s u = .next t) (hu : u.NoticesBacked) : t.NoticesBacked :=
  running_keeps he h hu

theorem unknownCommand (h : s.NoticesBacked) (he : execUnknownCommand s = .next t) : t.NoticesBacked := by
  unfold execUnknownCommand at he
  split at he
  · split at he <;> exact Host.Outcome.next.inj he ▸ h
  · exact Host.Outcome.next.inj he ▸ h

theorem resetRelease {addr : BitVec 3} {rate : BitVec 2} (h : s.NoticesBacked)
    (he : execResetRelease addr rate s = .next t) : t.NoticesBacked := by
  unfold execResetRelease at he
  split at he
  · exact Host.Outcome.next.inj he ▸ cleared rfl rfl
  · exact Host.Outcome.next.inj he ▸ h

end State.NoticesBacked

/-- Every row keeps the notice set within notifying points and defined references. -/
theorem exec_noticesBacked {c : Instr} {s t : State} (h : s.NoticesBacked) (he : exec c s = .next t) : t.NoticesBacked := by
  cases c with
  | definePoint =>
    exact h.complete he fun _ _ => definePoint_leaves fun _ _ _ hv _ _ _ _ _ => leaves_bindingTest (h.fillSlot hv _)
  | amendPoint =>
    exact h.complete he fun _ _ => amendPoint_leaves fun _ _ _ _ hr _ _ _ _ _ => leaves_bindingTest (h.amendSlot hr _)
  | startPoint => exact h.complete he fun _ _ => startPoint_leaves fun _ _ hr _ => h.start hr
  | stopPoint =>
    exact h.complete he fun _ _ => stopPoint_leaves (fun _ _ hr _ => h.stopLive hr) fun _ _ hr _ => h.rewritten hr rfl
  | retirePoint => exact h.complete he fun _ _ => retirePoint_leaves fun p r _ => h.retire p r
  | offerPoint => exact h.complete he fun _ _ => offerPoint_leaves fun _ _ _ hr _ _ _ => h.rewritten hr rfl
  | withdrawOffer => exact h.complete he fun _ _ => withdrawOffer_leaves fun _ _ hr => h.rewritten hr rfl
  | takePoint => exact h.complete he fun _ _ => takePoint_leaves fun _ _ hr _ _ => h.moveOwner hr _
  | assignOwner => exact h.complete he fun _ _ => assignOwner_leaves fun _ _ _ hr _ _ _ => h.moveOwner hr _
  | locatePoint => exact h.complete he fun _ _ => locatePoint_leaves fun _ _ _ hr => h.rewritten hr rfl
  | defineRef => exact h.complete he fun _ _ => defineRef_leaves fun r _ _ _ _ _ _ => h.setRef r _
  | amendRef => exact h.complete he fun _ _ => amendRef_leaves fun r _ _ _ _ _ _ _ _ _ _ _ => h.setRef r _
  | calibrateRef => exact h.complete he fun _ _ => calibrateRef_leaves fun r _ _ _ => (h.setRef r _).callCalibration r
  | retireRef => exact h.complete he fun _ _ => retireRef_leaves fun r _ _ _ => h.emptyRef r
  | readPoint => exact h.complete he fun _ _ => readPoint_leaves h
  | findTag => exact h.complete he fun _ _ => findTag_leaves h
  | listPoints => exact h.complete he fun _ _ => listPoints_leaves h
  | readRef => exact h.complete he fun _ _ => readRef_leaves h
  | measureNow => exact h.complete he fun _ _ => measureNow_leaves fun _ => h
  | measureOwned => exact h.complete he fun _ _ => measureOwned_leaves fun _ => h
  | configureDrive => exact h.complete he fun _ _ => configureDrive_leaves fun _ _ _ _ _ _ => h
  | setDriveLevels => exact h.complete he fun _ _ => setDriveLevels_leaves fun _ _ => h
  | setDrivePeriod => exact h.complete he fun _ _ => setDrivePeriod_leaves fun _ _ _ => h
  | setManualDuty => exact h.complete he fun _ _ => setManualDuty_leaves fun _ _ => h
  | enableDrive => exact h.complete he fun _ _ => enableDrive_leaves fun _ _ => h
  | disableDrive => exact h.complete he fun _ _ => disableDrive_leaves fun _ => h
  | releaseDrive => exact h.complete he fun _ _ => releaseDrive_leaves fun _ _ _ => h
  | readDrive => exact h.complete he fun _ _ => readDrive_leaves h
  | readNotices => exact h.complete he fun _ _ => readNotices_leaves (h.noticesRead _)
  | readStatus => exact h.complete he fun _ _ => readStatus_leaves h
  | clearCauses => exact h.complete he fun _ _ => clearCauses_leaves h
  | setDevice => exact h.complete he fun _ _ => setDevice_leaves fun _ => h
  | clearTables => exact h.complete he fun _ _ => clearTables_leaves (.cleared rfl rfl)
  | unknownCommand => exact h.unknownCommand he
  | hardwareReset => exact Host.Outcome.next.inj he ▸ .cleared rfl rfl
  | resetRelease addr rate => exact h.resetRelease he
  | offerExpiry slot => exact h.running he (h.expireOffer slot)
  | locateExpiry slot => exact h.running he (h.expireLocate slot)
  | freshnessDeadlineExpiry slot => exact h.running he (h.expireDeadline slot)
  | dispatch => exact h.running he h.dispatched
  | supplyCheckLatch vdda => exact h.running he (h.latchSupply vdda)
  | holdExpiry => exact h.running he h.endHold
  | referenceCountComplete frequency => exact h.running he (h.countComplete frequency)
  | referenceTimeBaseLimit frequency => exact h.running he (h.timeBaseLimit frequency)
  | sensorCountOverflow frequency => exact h.running he (h.sensorOverflow frequency)
  | sensorWindowEnd frequency => exact h.running he (h.windowEnd frequency)
  | periodBoundary channel => exact h.running he (h.atBoundary channel)
  | driveDutyCount channel => exact h.running he (h.atDuty channel)
  | cellOnTimeEnd column => exact h.running he (h.dimEnded column)
  | blankingGap => exact h.running he h.blanked
  | characterEcho data mark stop => exact h.running he (h.echoed data mark stop)
  | scheduleClockStep | fallingDue | rowSlotStart | idleGap | lineBreak | lineRise | turnaroundEnd => exact h.running he h
  | addressCharacter _ | dataCharacter _ | stopBitError _ _ => exact h.running he h

/-- Settles O10: a member joins with notify on or as a defined reference, and what takes the flag or the record away takes the
member with it (R163, R164). -/
theorem noticesBackedAfterEveryStep : Obligations.NoticesBackedAfterEveryStep := by
  intro s t hs h
  rcases step_next h with rfl | ⟨c, rest, -, h⟩
  · exact hs
  · exact exec_noticesBacked (s := { s with pending := rest }) hs h

end Sys2Proof.Machine

/-! SUPPORT. READ_NOTICES, READ_STATUS, CLEAR_CAUSES, SET_DEVICE and CLEAR_TABLES: what each completes to; the level of ALERT;
the hold of a hardware reset and the state after it. -/

namespace Sys2Proof.Machine

/-! ### READ_NOTICES (R165) -/

theorem readsPoint_iff (s : State) (source : Byte) (p : Slot) : s.readsPoint source p = true ↔
    s.noticePoints[p] = true ∧ (source = 15 ∨ ∃ r, s.points[p] = some r ∧ r.owner = source) := by
  simp only [State.readsPoint, Config.service, Bool.and_eq_true, Bool.or_eq_true, beq_iff_eq, Option.any_eq_true]

theorem readsRef_iff (s : State) (source : Byte) (r : RefId) : s.readsRef source r = true ↔
    s.noticeRefs[r] = true ∧ (source = 15 ∨ ∃ x, s.refs[r] = some x ∧ x.owner = source) := by
  simp only [State.readsRef, Config.service, Bool.and_eq_true, Bool.or_eq_true, beq_iff_eq, Option.any_eq_true]

theorem readNotices_nil (s : State) (source : Byte) :
    let slots := (List.finRange 48).filter (s.readsPoint source)
    let refs := (List.finRange 4).filter (s.readsRef source)
    readNotices source [] s = .ok (s.noticesRead source)
      (BitVec.ofNat 8 (slots.length + refs.length) :: (slots.map slotByte ++ refs.map (fun r => 48 + refByte r))) := by
  simp only [readNotices, State.noticeMembers, countByte, List.length_append, List.length_map]

/-- READ_NOTICES changes nothing but the notice set and the port. -/
theorem noticesRead_frame (s : State) (source : Byte) (port : Port) :
    ({ s.noticesRead source with port := port } : State) = { s with
      noticePoints := (s.noticesRead source).noticePoints
      noticeRefs := (s.noticesRead source).noticeRefs
      port := port } := by
  unfold State.noticesRead
  rfl

theorem noticesRead_port (s : State) (source : Byte) : (s.noticesRead source).port = s.port := by
  unfold State.noticesRead
  rfl

/-- Settles O48: the members are the filtered lists of all slots and of all references, and the set that is left holds the
others. -/
theorem readNoticesReturnsAndRemovesTheSourcesMembers : Obligations.ReadNoticesReturnsAndRemovesTheSourcesMembers := by
  intro s kind source h
  have hrow := completes_ok (c := .readNotices) rfl h (readNotices_nil s source) (noticesRead_port s source)
  refine ⟨_, _, _, hrow, noticesRead_frame .., (List.pairwise_lt_finRange 48).filter _,
    (List.pairwise_lt_finRange 4).filter _, fun p => ?_, fun r => ?_⟩
  · have hmem : p ∈ (List.finRange 48).filter (s.readsPoint source) ↔ s.readsPoint source p = true := by simp
    rw [hmem]
    exact ⟨readsPoint_iff s source p, noticesRead_noticePoint s source p⟩
  · have hmem : r ∈ (List.finRange 4).filter (s.readsRef source) ↔ s.readsRef source r = true := by simp
    rw [hmem]
    exact ⟨readsRef_iff s source r, noticesRead_noticeRef s source r⟩

/-! ### READ_STATUS (R171) -/

/-- The current job takes two bytes of the reply, whether there is one or not (Table 10-10). -/
theorem jobBytes_pair (job : Option Job) : ∃ kind record, jobBytes job = [kind, record] := by
  unfold jobBytes
  split
  · exact ⟨_, _, rfl⟩
  · split <;> exact ⟨_, _, rfl⟩

theorem jobBytes_ref {j : Job} {r : RefId} (h : j.record = .ref r) : jobBytes (some j) = [1, refByte r] := by
  simp only [jobBytes, h]

theorem jobBytes_point {j : Job} {p : Slot} (h : j.record = .point p) : jobBytes (some j) = [2, slotByte p] := by
  simp only [jobBytes, h]

/-- The members of a table of `n` places that pass a test, as a list of its places. -/
theorem nodup_mem_filter_finRange {n : Nat} (f : Fin n → Bool) (P : Fin n → Prop) (h : ∀ i, f i = true ↔ P i) :
    ((List.finRange n).filter f).Nodup ∧ ∀ i, i ∈ (List.finRange n).filter f ↔ P i :=
  ⟨(List.nodup_finRange n).filter _, fun i => by simp [h]⟩

/-- Settles O49: the reply is the 26 bytes in their order; what is left are the four counts, the current job and the causes. -/
theorem readStatusReplyFollowsItsTable : Obligations.ReadStatusReplyFollowsItsTable := by
  refine ⟨⟨fun _ => rfl, rfl, rfl, fun _ => rfl, fun _ => rfl⟩, ?_⟩
  intro s kind source h
  refine ⟨s.statusReply, (List.finRange 48).filter (fun p => (s.points[p]).any fun _ => true),
    (List.finRange 48).filter (fun p => (s.points[p]).any fun r => r.state == .live),
    (List.finRange 4).filter (fun r => (s.refs[r]).isSome), (List.finRange 8).filter (fun c => s.channels[c].owner != 0),
    nodup_mem_filter_finRange _ _ fun p => by cases s.points[p] <;> simp,
    nodup_mem_filter_finRange _ _ fun p => by simp [Option.any_eq_true],
    nodup_mem_filter_finRange _ _ fun r => Option.isSome_iff_ne_none,
    nodup_mem_filter_finRange _ _ fun c => bne_iff_ne,
    completes_ok rfl h rfl rfl, ?_⟩
  obtain ⟨kind, record, hjob⟩ := jobBytes_pair s.converter.state.job
  simp only [State.statusReply, hjob, slice, be16, be32, countByte, List.cons_append, List.nil_append, List.length_cons,
    List.length_nil, List.drop_succ_cons, List.take_succ_cons, List.drop_zero, List.take_zero, Nat.reduceSub, Nat.reduceAdd,
    true_and]
  refine ⟨rfl, rfl, rfl, fun hnone => ?_, fun j r hj hr => ?_, fun j p hj hp => ?_, rfl, rfl, rfl, rfl,
    ⟨_, rfl, bitsByte_three ..⟩, trivial⟩
  · rw [← hjob, hnone, jobBytes]
  · rw [← hjob, hj, jobBytes_ref hr]
  · rw [← hjob, hj, jobBytes_point hp]

/-! ### The level of ALERT (R169) -/

theorem alertLow_iff (s : State) : s.alertLow = true ↔ s.inReset = false ∧ s.settings.alertEnable = true ∧
    ((∃ p : Slot, s.noticePoints[p] = true) ∨ (∃ r : RefId, s.noticeRefs[r] = true) ∨ s.causes.supplyLow = true ∨
      s.causes.lineContention = true ∨ s.causes.tableCleared = true) := by
  simp only [State.alertLow, State.noticesWaiting, Causes.any, Bool.and_eq_true, Bool.or_eq_true, Bool.not_eq_true',
    List.any_eq_true, List.mem_finRange, true_and, and_assoc, or_assoc]

/-! ### CLEAR_CAUSES, SET_DEVICE and CLEAR_TABLES (R168, R170, R172) -/

/-- Each present setting is within its range (R170). -/
def settingsInRange (mask floor alert matrix lamp : Byte) : Prop :=
  mask.toNat < 16 ∧ (mask.getLsbD 0 = true → floor.toNat ≤ 7) ∧ (mask.getLsbD 1 = true → alert.toNat ≤ 1) ∧
  (mask.getLsbD 2 = true → matrix.toNat ≤ 1) ∧ (mask.getLsbD 3 = true → lamp.toNat ≤ 1)

theorem settingsInRange_iff (mask floor alert matrix lamp : Byte) :
    (decide (mask.toNat < 16) && (!mask.getLsbD 0 || decide (floor.toNat ≤ 7)) && (!mask.getLsbD 1 || flagCoded alert) &&
      (!mask.getLsbD 2 || flagCoded matrix) && (!mask.getLsbD 3 || flagCoded lamp)) = true ↔
    settingsInRange mask floor alert matrix lamp := by
  simp only [Bool.and_eq_true, absent_or_iff, flagCoded, decide_eq_true_eq, and_assoc, settingsInRange]

/-- CLEAR_CAUSES completes with a port of its own: the discard count and its reason are cleared beside the reply (R168). -/
theorem clearCauses_completes {s : State} {kind : FrameKind} (h : s.holds kind 15 0x72 []) :
    exec .clearCauses s = .next { s with
      causes := { supplyLow := false, lineContention := false, tableCleared := false }
      port := { s.answered kind 15 0x00 [] with discardCount := 0, lastDiscard := none } } := by
  have hcomplete : exec .clearCauses s = _ := complete_holds h clearCauses
  rw [hcomplete]
  simp [clearCauses, Config.service, State.finish, State.deliver, State.setPort, State.setCauses, State.answered, okCode]

/-- Settles O50: the completion of CLEAR_CAUSES, SET_DEVICE by its range check, and ALERT by what holds it low. -/
theorem causesSettingsAndAlert : Obligations.CausesSettingsAndAlert := by
  refine ⟨fun s kind h => clearCauses_completes h, ?_, alertLow_iff⟩
  intro s kind mask floor alert matrix lamp h inRange
  constructor
  · intro hin
    refine completes_ok (t := s.setSettings (amendedSettings mask floor alert matrix lamp s.settings)) rfl h ?_ rfl
    rw [setDevice, (settingsInRange_iff ..).mpr hin]
    rfl
  · intro hout
    refine completes_refused rfl h ?_
    rw [setDevice]
    exact refusedWith_require (Bool.eq_false_iff.mpr fun hin => hout ((settingsInRange_iff ..).mp hin)) .badValue _

theorem clearTables_service (s : State) : clearTables Config.service [] s = .ok s.cleared [] := rfl

/-- Settles O51: what the service controller's CLEAR_TABLES leaves is the part with its tables at their reset values. -/
theorem clearTablesEmptiesEveryTable : Obligations.ClearTablesEmptiesEveryTable := fun s _ h =>
  completes_ok rfl h (clearTables_service s) rfl

/-! ### Hardware reset (R173, R190) -/

section
variable {s : State}

theorem complete_held (h : s.inReset = true) (code : Byte) (command : Byte → List Byte → State → Answer) :
    complete code command s = .next s := by
  simp only [complete, h]

theorem unknownCommand_held (h : s.inReset = true) : execUnknownCommand s = .next s := by
  simp only [execUnknownCommand, h]

theorem resetRelease_held (h : s.inReset = true) (addr : BitVec 3) (rate : BitVec 2) :
    execResetRelease addr rate s = .next (s.hardReset false addr rate) := if_pos h

/-- No row but the two of NRESET has an effect while NRESET is low. -/
theorem exec_held (h : s.inReset = true) {c : Instr} (hreset : c ≠ .hardwareReset)
    (hrelease : ∀ addr rate, c ≠ .resetRelease addr rate) : exec c s = .next s := by
  cases c with
  | hardwareReset => exact absurd rfl hreset
  | resetRelease addr rate => exact absurd rfl (hrelease addr rate)
  | unknownCommand => exact unknownCommand_held h
  | definePoint | amendPoint | startPoint | stopPoint | retirePoint | readPoint | findTag | listPoints
  | offerPoint | withdrawOffer | takePoint | assignOwner
  | defineRef | amendRef | calibrateRef | readRef | retireRef
  | measureNow | measureOwned
  | configureDrive | setDriveLevels | setDrivePeriod | setManualDuty | enableDrive | disableDrive | releaseDrive | readDrive
  | locatePoint | readNotices | readStatus | clearCauses | setDevice | clearTables => exact complete_held h _ _
  | scheduleClockStep | fallingDue | dispatch | holdExpiry
  | rowSlotStart | blankingGap | idleGap | lineBreak | lineRise | turnaroundEnd => exact running_reset h _
  | offerExpiry _ | locateExpiry _ | freshnessDeadlineExpiry _
  | supplyCheckLatch _ | referenceCountComplete _ | referenceTimeBaseLimit _ | sensorCountOverflow _ | sensorWindowEnd _
  | periodBoundary _ | driveDutyCount _ | cellOnTimeEnd _ => exact running_reset h _
  | addressCharacter _ | dataCharacter _ | stopBitError _ _ | characterEcho _ _ _ => exact running_reset h _

end

/-- The address straps are added to the lowest drop address (R174). -/
theorem dropAddress_toNat (s : State) : s.dropAddress.toNat = 32 + s.addrStrap.toNat := by
  have hbase : Config.dropBase.toNat = 32 := rfl
  simp only [State.dropAddress, BitVec.toNat_add, BitVec.toNat_setWidth, hbase]
  omega

/-! The outputs of the part in its reset state (R151, R161). -/

theorem reset_pinHigh (c : ChannelId) : State.reset.channels[c].pinHigh = false := by
  rw [show State.reset.channels[c] = DriveChannel.reset from resetChannels_channel c]
  rfl

theorem reset_rowHigh (r : Fin 6) : State.reset.rowHigh r = false := by
  simp [State.rowHigh, State.reset, Matrix.reset]

theorem reset_columnLow (c : Column) : State.reset.columnLow c = false := Vector.getElem_replicate c.isLt

/-- ALERT is low from the release on, since TABLE_CLEARED is set and the alert enable is on (R169, Tables 9-3 and 9-4). -/
theorem alertLow_released (addr : BitVec 3) (rate : BitVec 2) (s : State) : (s.hardReset false addr rate).alertLow = true :=
  (alertLow_iff _).mpr ⟨rfl, rfl, .inr (.inr (.inr (.inr rfl)))⟩

/-- Settles O4: both rows of NRESET leave the reset state with its outputs, and every other row needs the part to run. -/
theorem hardwareResetHoldsThePartUntilItsRelease : Obligations.HardwareResetHoldsThePartUntilItsRelease := by
  refine ⟨fun s => ?_, fun s addr rate h => ?_, fun s c h hreset hrelease => exec_held h hreset hrelease⟩
  · exact ⟨rfl, rfl, rfl, reset_pinHigh, reset_rowHigh, reset_columnLow⟩
  · exact ⟨resetRelease_held h addr rate, dropAddress_toNat _, alertLow_released addr rate s⟩

/-! ### The invariants of the reset state (R173) -/

/-! A part with empty tables meets what is asked of their records. -/

section
variable {s : State}

theorem tagsAgree_of_empty (hp : s.points = Vector.replicate 48 none) (ht : s.tagMap = Vector.replicate 48 none) :
    s.TagsAgree := by
  simp [State.TagsAgree, hp, ht]

theorem countsAgree_of_empty (hp : s.points = Vector.replicate 48 none) (hr : s.refs = Vector.replicate 4 none) :
    s.CountsAgree := by
  simp [State.CountsAgree, hp, hr]

theorem pointsSound_of_empty (hp : s.points = Vector.replicate 48 none) : s.PointsSound := by
  simp [State.PointsSound, hp]

theorem refsSound_of_empty (hr : s.refs = Vector.replicate 4 none) : s.RefsSound := by
  simp [State.RefsSound, hr]

end

theorem reset_bindingsAgree : State.reset.BindingsAgree := by
  refine (bindingsAgree_iff _).mpr fun c => ?_
  have hclaims : State.reset.claims = fun _ => none := by
    funext p
    simp [State.claims, State.reset]
  rw [hclaims, show State.reset.channels[c] = DriveChannel.reset from resetChannels_channel c]
  exact reset_fits c

theorem reset_channelsSound : State.reset.ChannelsSound := by
  intro c
  rw [show State.reset.channels[c] = DriveChannel.reset from resetChannels_channel c]
  rfl

/-- Settles O3: the tables are empty, so that what is asked of their records holds, and the blocks stand as Table 9-4 says. -/
theorem resetStateIsAsTheBookGivesItAndSound : Obligations.ResetStateIsAsTheBookGivesItAndSound := by
  refine ⟨rfl, rfl, rfl, rfl, ?_, ?_, rfl, ?_, rfl, rfl, rfl, rfl, reset_rowHigh, ?_, rfl, rfl, rfl, rfl, rfl, rfl, rfl, rfl,
    rfl, rfl, ?_, ?_, ?_, rfl, reset_pinHigh, ?_⟩
  · exact fun p => ⟨Vector.getElem_replicate p.isLt, Vector.getElem_replicate p.isLt, Vector.getElem_replicate p.isLt⟩
  · exact fun r => ⟨Vector.getElem_replicate r.isLt, Vector.getElem_replicate r.isLt⟩
  · exact fun c => ⟨0, resetChannels_channel c⟩
  · exact fun c => ⟨Vector.getElem_replicate c.isLt, reset_columnLow c⟩
  · rw [dropAddress_toNat]
    omega
  · rw [dropAddress_toNat]
    omega
  · exact alertLow_released 0 0 State.reset
  · exact ⟨tagsAgree_of_empty rfl rfl, .cleared rfl rfl rfl rfl, countsAgree_of_empty rfl rfl, .nil, nofun,
      reset_bindingsAgree, .cleared rfl rfl, pointsSound_of_empty rfl, refsSound_of_empty rfl, .cleared rfl,
      reset_channelsSound, rfl⟩

end Sys2Proof.Machine

/-! SUPPORT. The rows that complete a command, with what Table 10-5 and the executor say of each; the refusals that all of them share
(R188). -/

namespace Sys2Proof.Machine

/-! ### The command of a row -/

/-- What the executor answers to a command from a source with a payload. -/
abbrev Executor := Byte → List Byte → State → Answer

/-- The command that a row completes: its code and the length of its payload (Table 10-5), and its executor. -/
def commandOf : Instr → Option (Byte × Nat × Executor)
  | .definePoint => some (0x10, 17, definePoint)
  | .amendPoint => some (0x11, 19, amendPoint)
  | .startPoint => some (0x12, 1, startPoint)
  | .stopPoint => some (0x13, 1, stopPoint)
  | .retirePoint => some (0x14, 1, retirePoint)
  | .readPoint => some (0x15, 1, readPoint)
  | .findTag => some (0x16, 2, findTag)
  | .listPoints => some (0x17, 2, listPoints)
  | .offerPoint => some (0x20, 3, offerPoint)
  | .withdrawOffer => some (0x21, 1, withdrawOffer)
  | .takePoint => some (0x22, 1, takePoint)
  | .assignOwner => some (0x23, 2, assignOwner)
  | .defineRef => some (0x30, 7, defineRef)
  | .amendRef => some (0x31, 8, amendRef)
  | .calibrateRef => some (0x32, 1, calibrateRef)
  | .readRef => some (0x33, 1, readRef)
  | .retireRef => some (0x34, 1, retireRef)
  | .measureNow => some (0x40, 1, measureNow)
  | .measureOwned => some (0x41, 0, measureOwned)
  | .configureDrive => some (0x50, 15, configureDrive)
  | .setDriveLevels => some (0x51, 9, setDriveLevels)
  | .setDrivePeriod => some (0x52, 3, setDrivePeriod)
  | .setManualDuty => some (0x53, 3, setManualDuty)
  | .enableDrive => some (0x54, 1, enableDrive)
  | .disableDrive => some (0x55, 1, disableDrive)
  | .releaseDrive => some (0x56, 1, releaseDrive)
  | .readDrive => some (0x57, 1, readDrive)
  | .locatePoint => some (0x60, 2, locatePoint)
  | .readNotices => some (0x70, 0, readNotices)
  | .readStatus => some (0x71, 0, readStatus)
  | .clearCauses => some (0x72, 0, clearCauses)
  | .setDevice => some (0x73, 5, setDevice)
  | .clearTables => some (0x74, 0, clearTables)
  | _ => none

section
variable {row : Instr} {code : Byte} {length : Nat} {command : Executor} {s : State} {kind : FrameKind} {source : Byte}
  {payload : List Byte}

/-- Every row of Table 10-5 has its command, with the code and the length that the table gives. -/
theorem commandOf_of_mem (h : (row, code, length) ∈ commandTable) : ∃ command, commandOf row = some (code, length, command) := by
  have hall : ∀ x ∈ commandTable, (commandOf x.1).map (fun y => (y.1, y.2.1)) = some x.2 := by decide
  obtain ⟨⟨k, n, command⟩, hc, he⟩ := Option.map_eq_some_iff.mp (hall _ h)
  obtain ⟨rfl, rfl⟩ : k = code ∧ n = length := by simpa using he
  exact ⟨command, hc⟩

/-- The row of a command completes it. -/
theorem exec_commandOf (h : commandOf row = some (code, length, command)) (s : State) :
    exec row s = complete code command s := by
  cases row <;> cases h <;> rfl

/-! ### A payload of another length (R188 check 1) -/

theorem pointFieldsOf_none {bytes : List Byte} (h : bytes.length ≠ 16) : pointFieldsOf bytes = none := by
  unfold pointFieldsOf
  split
  · exact absurd rfl h
  · rfl

theorem driveFieldsOf_none {bytes : List Byte} (h : bytes.length ≠ 14) : driveFieldsOf bytes = none := by
  unfold driveFieldsOf
  split
  · exact absurd rfl h
  · rfl

theorem levelsOf_none {bytes : List Byte} (h : bytes.length ≠ 8) : levelsOf bytes = none := by
  unfold levelsOf
  split
  · exact absurd rfl h
  · rfl

/-- A payload of another length than the table's is refused, whatever else it holds. -/
theorem command_badLength (h : commandOf row = some (code, length, command)) (hl : payload.length ≠ length) :
    command source payload s = .refuse .badLength := by
  cases row with
  | definePoint =>
    cases h
    rcases payload with _ | ⟨slot, rest⟩
    · rfl
    · simp only [definePoint, pointFieldsOf_none (bytes := rest) fun e => hl (by rw [List.length_cons, e])]
  | amendPoint =>
    cases h
    rcases payload with _ | ⟨slot, _ | ⟨hi, _ | ⟨lo, rest⟩⟩⟩
    · rfl
    · rfl
    · rfl
    · simp only [amendPoint, pointFieldsOf_none (bytes := rest) fun e => hl (by simp only [List.length_cons, e])]
  | configureDrive =>
    cases h
    rcases payload with _ | ⟨channel, rest⟩
    · rfl
    · simp only [configureDrive, driveFieldsOf_none (bytes := rest) fun e => hl (by rw [List.length_cons, e])]
  | setDriveLevels =>
    cases h
    rcases payload with _ | ⟨channel, rest⟩
    · rfl
    · simp only [setDriveLevels, levelsOf_none (bytes := rest) fun e => hl (by rw [List.length_cons, e])]
  | measureOwned | readNotices | readStatus | clearCauses | clearTables =>
    cases h
    rcases payload with _ | ⟨a, rest⟩
    · exact absurd rfl hl
    · rfl
  | startPoint | stopPoint | retirePoint | readPoint | withdrawOffer | takePoint | calibrateRef | readRef | retireRef |
    measureNow | enableDrive | disableDrive | releaseDrive | readDrive =>
    cases h
    rcases payload with _ | ⟨a, _ | ⟨b, rest⟩⟩
    · rfl
    · exact absurd rfl hl
    · rfl
  | findTag | listPoints | assignOwner | locatePoint =>
    cases h
    rcases payload with _ | ⟨a, _ | ⟨b, _ | ⟨c, rest⟩⟩⟩
    · rfl
    · rfl
    · exact absurd rfl hl
    · rfl
  | offerPoint | setDrivePeriod | setManualDuty =>
    cases h
    rcases payload with _ | ⟨a, _ | ⟨b, _ | ⟨c, _ | ⟨d, rest⟩⟩⟩⟩
    · rfl
    · rfl
    · rfl
    · exact absurd rfl hl
    · rfl
  | setDevice =>
    cases h
    unfold setDevice
    split
    · exact absurd rfl hl
    · rfl
  | defineRef =>
    cases h
    unfold defineRef
    split
    · exact absurd rfl hl
    · rfl
  | amendRef =>
    cases h
    unfold amendRef
    split
    · exact absurd rfl hl
    · rfl
  | _ => cases h

end

/-! ### UNKNOWN_COMMAND and BAD_LENGTH -/

/-- The row of a command leaves the part as it is while another command waits. -/
theorem complete_other {s : State} {kind : FrameKind} {source code k : Byte} {payload : List Byte}
    (h : s.holds kind source k payload) (hne : code ≠ k) (command : Executor) : complete code command s = .next s := by
  obtain ⟨hrun, hframe⟩ := h
  simp [complete, hrun, hframe, hne.symm]

/-- The row of a command leaves the part as it is while no command waits (log 2). -/
theorem complete_none {s : State} (h : s.port.command = none) (code : Byte) (command : Executor) :
    complete code command s = .next s := by
  cases hr : s.inReset <;> simp only [complete, h, hr]

/-- The listed codes are those of the rows that complete a command. -/
theorem mem_commandCodes (code : Byte) : code ∈ commandCodes ↔ ∃ row ∈ commandTable, row.2.1 = code := by
  rw [show commandCodes = commandTable.map fun row => row.2.1 from rfl, List.mem_map]

/-- UNKNOWN_COMMAND answers a frame whose code the table does not list. -/
theorem execUnknownCommand_unlisted {s : State} {kind : FrameKind} {source code : Byte} {payload : List Byte}
    (h : s.holds kind source code payload) (hc : code ∉ commandCodes) :
    exec .unknownCommand s = .next { s with port := s.answered kind source 0x10 [] } := by
  obtain ⟨hrun, hframe⟩ := h
  change execUnknownCommand s = _
  simp only [execUnknownCommand, hrun, hframe, List.contains_iff_mem, if_neg hc, finish_refuse]
  rfl

/-- UNKNOWN_COMMAND leaves a frame whose code the table lists. -/
theorem execUnknownCommand_listed {s : State} {kind : FrameKind} {source code : Byte} {payload : List Byte}
    (h : s.holds kind source code payload) (hc : code ∈ commandCodes) : exec .unknownCommand s = .next s := by
  obtain ⟨hrun, hframe⟩ := h
  change execUnknownCommand s = _
  simp only [execUnknownCommand, hrun, hframe, List.contains_iff_mem, if_pos hc]

theorem execUnknownCommand_none {s : State} (h : s.port.command = none) : exec .unknownCommand s = .next s := by
  change execUnknownCommand s = _
  cases hr : s.inReset <;> simp only [execUnknownCommand, h, hr]

/-- Settles O52: the codes of the table are those of the rows, and every executor makes the check of the length first. -/
theorem unknownCodesAndWrongLengthsAreRefused : Obligations.UnknownCodesAndWrongLengthsAreRefused := by
  constructor
  · intro s kind source code payload h
    refine ⟨fun hno => ?_, fun hyes => ?_, ?_, ?_⟩
    · refine execUnknownCommand_unlisted h fun hc => ?_
      obtain ⟨row, hrow, he⟩ := (mem_commandCodes code).mp hc
      exact hno row hrow he
    · exact execUnknownCommand_listed h ((mem_commandCodes code).mpr hyes)
    · rintro ⟨row, k, length⟩ hrow rfl hlen
      obtain ⟨command, hc⟩ := commandOf_of_mem hrow
      exact completes_refused (exec_commandOf hc s) h ⟨.badLength, command_badLength hc hlen, rfl⟩
    · rintro ⟨row, k, length⟩ hrow hne
      obtain ⟨command, hc⟩ := commandOf_of_mem hrow
      rw [exec_commandOf hc, complete_other h hne]
  · intro s h
    refine ⟨execUnknownCommand_none h, ?_⟩
    rintro ⟨row, k, length⟩ hrow
    obtain ⟨command, hc⟩ := commandOf_of_mem hrow
    rw [exec_commandOf hc, complete_none h]

/-! ### The fields of a payload of the right length -/

theorem levelsOf_some : ∀ {bytes : List Byte}, bytes.length = 8 → ∃ l, levelsOf bytes = some l
  | [_, _, _, _, _, _, _, _], _ => ⟨_, rfl⟩

theorem driveFieldsOf_some : ∀ {bytes : List Byte}, bytes.length = 14 → ∃ f, driveFieldsOf bytes = some f
  | [_, _, _, _, _, _, _, _, _, _, _, _, _, _], _ => ⟨_, rfl⟩

/-- Two bytes are those of the field that they carry. -/
theorem be16_half (hi lo : Byte) : be16 (half hi lo) = [hi, lo] := by
  have hhi : (half hi lo).extractLsb' 8 8 = hi := BitVec.extractLsb'_append_eq_left
  have hlo : (half hi lo).extractLsb' 0 8 = lo :=
    (BitVec.extractLsb'_append_eq_of_add_le (Nat.le_refl 8)).trans BitVec.extractLsb'_eq_self
  rw [be16, hhi, hlo]

/-- Sixteen bytes are those of the definition fields that they carry. -/
theorem exists_pointFields : ∀ {bytes : List Byte}, bytes.length = 16 → ∃ f : PointFields, bytes = f.bytes
  | [tH, tL, input, reference, iH, iL, stale, limit, lowH, lowL, highH, highL, hystH, hystL, notify, binding], _ =>
    ⟨⟨half tH tL, input, reference, half iH iL, stale, limit, half lowH lowL, half highH highL, half hystH hystL, notify,
      binding⟩, by simp only [PointFields.bytes, be16_half, List.cons_append, List.nil_append]⟩

/-- The eighteen bytes after the slot of AMEND_POINT are a mask and the definition fields. -/
theorem exists_amendFields {bytes : List Byte} (h : bytes.length = 18) :
    ∃ (mask : Half) (f : PointFields), bytes = be16 mask ++ f.bytes := by
  match bytes, h with
  | hi :: lo :: rest, h =>
    obtain ⟨f, rfl⟩ := exists_pointFields (bytes := rest) (by simpa using h)
    exact ⟨half hi lo, f, by rw [be16_half]; rfl⟩

/-! ### BAD_SLOT, SLOT_EMPTY and NOT_OWNER -/

/-- A source that is neither the owner nor the service controller may not change the record (R28). -/
theorem mayChange_stranger {source owner : Byte} (hs : source ≠ 15) (ho : source ≠ owner) : mayChange source owner = false := by
  refine Bool.eq_false_iff.mpr fun h => ?_
  rcases (mayChange_iff source owner).mp h with h | h
  · exact ho h
  · exact hs h

/-- Past the checks on the slot, a command refuses every source that may not give it: one that is not the owner, and any but the
service controller for ASSIGN_OWNER. -/
def asksForOwner (row : Instr) (source : Byte) (rest : Slot → PointRecord → Answer) : Prop :=
  source ≠ 15 → row ≠ .readPoint → row ≠ .takePoint → row ≠ .locatePoint →
    ∀ p r, source ≠ r.owner ∨ row = .assignOwner → rest p r = .refuse .notOwner

theorem asksForOwner_mayChange {row : Instr} {source : Byte} (hrow : row ≠ .assignOwner)
    (rest : Slot → PointRecord → Answer) :
    asksForOwner row source fun p r => require (mayChange source r.owner) .notOwner (rest p r) := by
  intro hs _ _ _ p r ho
  simp only [mayChange_stranger hs (ho.resolve_right hrow), require_false]

section
variable {row : Instr} {code : Byte} {length : Nat} {command : Executor} {s : State} {source named : Byte}
  {rest : List Byte}

/-- Every command that names a point but AMEND_POINT makes the checks on the slot first, and then that of the owner. -/
theorem pointCommand_onPoint (hrow : row ∈ pointCommands) (hamend : row ≠ .amendPoint)
    (h : commandOf row = some (code, length, command)) (hl : rest.length + 1 = length) :
    ∃ next, command source (named :: rest) s = onPoint named s next ∧ asksForOwner row source next := by
  cases row with
  | startPoint | stopPoint | retirePoint | withdrawOffer | measureNow =>
    cases h
    obtain rfl : rest = [] := List.length_eq_zero_iff.mp (Nat.succ.inj hl)
    refine ⟨_, by dsimp only [startPoint, stopPoint, retirePoint, withdrawOffer, measureNow], ?_⟩
    exact asksForOwner_mayChange (by decide) _
  | offerPoint =>
    cases h
    obtain ⟨recipient, hold, rfl⟩ := List.length_eq_two.mp (Nat.succ.inj hl)
    refine ⟨_, by dsimp only [offerPoint], ?_⟩
    exact asksForOwner_mayChange (by decide) _
  | assignOwner =>
    cases h
    obtain ⟨owner, rfl⟩ := List.length_eq_one_iff.mp (Nat.succ.inj hl)
    refine ⟨_, by dsimp only [assignOwner], fun hs _ _ _ p r _ => ?_⟩
    simp only [beq_false_of_ne (show source ≠ Config.service from hs), require_false]
  | readPoint =>
    cases h
    obtain rfl : rest = [] := List.length_eq_zero_iff.mp (Nat.succ.inj hl)
    exact ⟨_, by dsimp only [readPoint], fun _ hread => absurd rfl hread⟩
  | takePoint =>
    cases h
    obtain rfl : rest = [] := List.length_eq_zero_iff.mp (Nat.succ.inj hl)
    exact ⟨_, by dsimp only [takePoint], fun _ _ htake => absurd rfl htake⟩
  | locatePoint =>
    cases h
    obtain ⟨seconds, rfl⟩ := List.length_eq_one_iff.mp (Nat.succ.inj hl)
    exact ⟨_, by dsimp only [locatePoint], fun _ _ _ hlocate => absurd rfl hlocate⟩
  | amendPoint => exact absurd rfl hamend
  | _ => simp [pointCommands] at hrow

/-- AMEND_POINT comes to the checks on the slot when what it names is within range, and to that of the owner when its present
reference is defined (R12). -/
theorem amendFields_onPoint {slot : Byte} {mask : Half} {f : PointFields} (hnames : namesInRange mask f) :
    ∃ next, amendFields source slot mask f s = onPoint slot s next ∧
      (s.referenceDefined mask f → asksForOwner .amendPoint source next) := by
  refine ⟨_, by rw [amendFields, (amendNames_iff mask f).mpr hnames, require_true], fun hdef => ?_⟩
  simp only [(amendDefined_iff hnames).mpr hdef, require_true]
  exact asksForOwner_mayChange (by decide) _

/-- AMEND_POINT of a slot out of range is answered BAD_SLOT, whatever else is out of range (R12). -/
theorem amendFields_badSlot {slot : Byte} (hs : 47 < slot.toNat) (mask : Half) (f : PointFields) :
    amendFields source slot mask f s = .refuse .badSlot := by
  rw [amendFields, onPoint_badSlot _ _ _ hs, require_eq, ite_self]

/-- A command of the right length that names a point, with the present names of an amendment within range. -/
theorem pointCommand_named (hrow : row ∈ pointCommands) (h : commandOf row = some (code, length, command))
    (hl : rest.length + 1 = length)
    (hnames : row = .amendPoint → ∀ (mask : Half) (f : PointFields), rest = be16 mask ++ f.bytes → namesInRange mask f) :
    ∃ next, command source (named :: rest) s = onPoint named s next ∧
      ((row = .amendPoint → ∀ (mask : Half) (f : PointFields), rest = be16 mask ++ f.bytes → s.referenceDefined mask f) →
        asksForOwner row source next) := by
  by_cases hamend : row = .amendPoint
  · subst hamend
    cases h
    obtain ⟨mask, f, rfl⟩ := exists_amendFields (Nat.succ.inj hl)
    obtain ⟨next, hnext, hasks⟩ := amendFields_onPoint (s := s) (source := source) (slot := named) (hnames rfl mask f rfl)
    exact ⟨next, (amendPoint_bytes source named mask f s).trans hnext, fun hdef => hasks (hdef rfl mask f rfl)⟩
  · obtain ⟨next, hnext, hasks⟩ := pointCommand_onPoint (s := s) (source := source) (named := named) hrow hamend h hl
    exact ⟨next, hnext, fun _ => hasks⟩

theorem pointCommand_badSlot (hrow : row ∈ pointCommands) (h : commandOf row = some (code, length, command))
    (hl : rest.length + 1 = length) (hs : 47 < named.toNat) : command source (named :: rest) s = .refuse .badSlot := by
  by_cases hamend : row = .amendPoint
  · subst hamend
    cases h
    obtain ⟨mask, f, rfl⟩ := exists_amendFields (Nat.succ.inj hl)
    exact (amendPoint_bytes source named mask f s).trans (amendFields_badSlot hs mask f)
  · obtain ⟨next, hnext, -⟩ := pointCommand_onPoint (s := s) (source := source) (named := named) hrow hamend h hl
    exact hnext.trans (onPoint_badSlot _ _ _ hs)

/-- DEFINE_POINT takes a slot 0-47 or 255 (R8). -/
theorem definePoint_badSlot (hl : rest.length = 16) (hs : 47 < named.toNat) (hne : named ≠ 255) :
    definePoint source (named :: rest) s = .refuse .badSlot := by
  obtain ⟨f, rfl⟩ := exists_pointFields hl
  have hslot : (decide (named.toNat < 48) || named == 255) = false := by
    rw [beq_false_of_ne hne, decide_eq_false (by omega), Bool.or_self]
  rw [definePoint_bytes, defineFields, hslot, Bool.false_and, Bool.false_and, require_false]

/-- Every command that names a defined reference makes the checks on it first, and then, but for READ_REF, that of the owner. -/
theorem refCommand_onRef (hrow : row ∈ refCommands) (h : commandOf row = some (code, length, command))
    (hl : rest.length + 1 = length) :
    ∃ next, command source (named :: rest) s = onRef named s next ∧
      (source ≠ 15 → row ≠ .readRef → ∀ r x, source ≠ x.owner → next r x = .refuse .notOwner) := by
  cases row with
  | calibrateRef | retireRef =>
    cases h
    obtain rfl : rest = [] := List.length_eq_zero_iff.mp (Nat.succ.inj hl)
    refine ⟨_, by dsimp only [calibrateRef, retireRef], fun hs _ r x ho => ?_⟩
    simp only [mayChange_stranger hs ho, require_false]
  | amendRef =>
    cases h
    match rest, hl with
    | [mask, isOpen, excitation, spanH, spanL, recalH, recalL], _ =>
      refine ⟨_, by dsimp only [amendRef], fun hs _ r x ho => ?_⟩
      simp only [mayChange_stranger hs ho, require_false]
  | readRef =>
    cases h
    obtain rfl : rest = [] := List.length_eq_zero_iff.mp (Nat.succ.inj hl)
    exact ⟨_, by dsimp only [readRef], fun _ hread => absurd rfl hread⟩
  | _ => simp [refCommands] at hrow

theorem defineRef_badSlot (hl : rest.length = 6) (hs : 3 < named.toNat) :
    defineRef source (named :: rest) s = .refuse .badSlot := by
  match rest, hl with
  | [isOpen, excitation, spanH, spanL, recalH, recalL], _ =>
    have hcoded : refCoded named = false := decide_eq_false (by omega)
    simp only [defineRef, hcoded, require_false]

/-- Every drive command makes the check on its channel first, and then, but for READ_DRIVE, that of the owner; CONFIGURE_DRIVE also
takes an unowned channel (R138). -/
theorem driveCommand_onChannel (hrow : row ∈ driveCommands) (h : commandOf row = some (code, length, command))
    (hl : rest.length + 1 = length) :
    ∃ next, command source (named :: rest) s = onChannel named next ∧
      (source ≠ 15 → row ≠ .readDrive → ∀ c : ChannelId, source ≠ s.channels[c].owner →
        (row = .configureDrive → s.channels[c].owner ≠ 0) → next c = .refuse .notOwner) := by
  cases row with
  | enableDrive | disableDrive | releaseDrive =>
    cases h
    obtain rfl : rest = [] := List.length_eq_zero_iff.mp (Nat.succ.inj hl)
    refine ⟨_, by dsimp only [enableDrive, disableDrive, releaseDrive, onOwnedChannel], fun hs _ c ho _ => ?_⟩
    simp only [mayChange_stranger hs ho, require_false]
  | setDrivePeriod | setManualDuty =>
    cases h
    obtain ⟨hi, lo, rfl⟩ := List.length_eq_two.mp (Nat.succ.inj hl)
    refine ⟨_, by dsimp only [setDrivePeriod, setManualDuty, onOwnedChannel], fun hs _ c ho _ => ?_⟩
    simp only [mayChange_stranger hs ho, require_false]
  | setDriveLevels =>
    cases h
    obtain ⟨l, hlevels⟩ := levelsOf_some (Nat.succ.inj hl)
    refine ⟨_, by simp only [setDriveLevels, hlevels, onOwnedChannel]; rfl, fun hs _ c ho _ => ?_⟩
    simp only [mayChange_stranger hs ho, require_false]
  | configureDrive =>
    cases h
    obtain ⟨f, hfields⟩ := driveFieldsOf_some (Nat.succ.inj hl)
    refine ⟨_, by simp only [configureDrive, hfields, configureFields]; rfl, fun hs _ c ho hne => ?_⟩
    simp only [mayChange_stranger hs ho, beq_false_of_ne (hne rfl), Bool.or_self, require_false]
  | readDrive =>
    cases h
    obtain rfl : rest = [] := List.length_eq_zero_iff.mp (Nat.succ.inj hl)
    exact ⟨_, by dsimp only [readDrive], fun _ hread => absurd rfl hread⟩
  | _ => simp [driveCommands] at hrow

/-- The device commands that change the part ask for the service controller (Table 2-1). -/
theorem deviceCommand_notOwner {payload : List Byte} (hrow : row = .clearCauses ∨ row = .setDevice ∨ row = .clearTables)
    (h : commandOf row = some (code, length, command)) (hl : payload.length = length) (hs : source ≠ 15) :
    command source payload s = .refuse .notOwner := by
  have hservice : (source == Config.service) = false := beq_false_of_ne hs
  rcases hrow with rfl | rfl | rfl
  · cases h
    obtain rfl : payload = [] := List.length_eq_zero_iff.mp hl
    simp only [clearCauses, hservice, require_false]
  · cases h
    match payload, hl with
    | [mask, floor, alert, matrix, lamp], _ => simp only [setDevice, hservice, require_false]
  · cases h
    obtain rfl : payload = [] := List.length_eq_zero_iff.mp hl
    simp only [clearTables, hservice, require_false]

end

/-- Settles O53: each command comes down to the check on the record that it names and then to that of its owner. -/
theorem namedRecordsMustExistAndBeTheSources : Obligations.NamedRecordsMustExistAndBeTheSources := by
  constructor
  · intro s kind source code named rest row length h hmem hl
    obtain ⟨command, hc⟩ := commandOf_of_mem hmem
    have refused : ∀ c, command source (named :: rest) s = .refuse c →
        exec row s = .next { s with port := s.answered kind source (replyByte c) [] } :=
      fun c ha => completes_refused (exec_commandOf hc s) h ⟨c, ha, rfl⟩
    refine ⟨fun hrow hs => ?_, fun hrow hs hne => ?_, fun hrow hnames p hp hv => ?_, fun hrow hs => ?_,
      fun hrow r hr hv => ?_, fun hrow hs => ?_⟩
    · exact refused .badSlot (pointCommand_badSlot hrow hc hl hs)
    · subst hrow
      cases hc
      exact refused .badSlot (definePoint_badSlot (Nat.succ.inj hl) hs hne)
    · obtain ⟨next, hnext, -⟩ := pointCommand_named (s := s) (source := source) (named := named) hrow hc hl hnames
      exact refused .slotEmpty (hnext.trans (hp ▸ onPoint_none hv next))
    · rcases hrow with hrow | rfl
      · obtain ⟨next, hnext, -⟩ := refCommand_onRef (s := s) (source := source) (named := named) hrow hc hl
        exact refused .badSlot (hnext.trans (onRef_badSlot _ _ _ hs))
      · cases hc
        exact refused .badSlot (defineRef_badSlot (Nat.succ.inj hl) hs)
    · obtain ⟨next, hnext, -⟩ := refCommand_onRef (s := s) (source := source) (named := named) hrow hc hl
      exact refused .slotEmpty (hnext.trans (hr ▸ onRef_none hv next))
    · obtain ⟨next, hnext, -⟩ := driveCommand_onChannel (s := s) (source := source) (named := named) hrow hc hl
      exact refused .badSlot (hnext.trans (onChannel_badSlot _ _ hs))
  · intro s kind source code payload row length h hmem hl hs
    obtain ⟨command, hc⟩ := commandOf_of_mem hmem
    have refused : command source payload s = .refuse .notOwner →
        exec row s = .next { s with port := s.answered kind source 0x18 [] } :=
      fun ha => completes_refused (exec_commandOf hc s) h ⟨.notOwner, ha, rfl⟩
    refine ⟨fun hrow hread htake hlocate hnames p r hp hr ho => ?_, fun hrow hread r x hp hx ho => ?_,
      fun hrow hread c hp ho hfree => ?_, fun hrow => refused (deviceCommand_notOwner hrow hc hl hs)⟩
    · obtain ⟨rest, rfl⟩ := List.head?_eq_some_iff.mp hp
      obtain ⟨next, hnext, hasks⟩ := pointCommand_named (s := s) (source := source) (named := slotByte p) hrow hc hl
        fun ha mask f he => (hnames ha mask f he).1
      refine refused (hnext.trans ((onPoint_some hr next).trans ?_))
      exact hasks (fun ha mask f he => (hnames ha mask f he).2) hs hread htake hlocate p r ho
    · obtain ⟨rest, rfl⟩ := List.head?_eq_some_iff.mp hp
      obtain ⟨next, hnext, hasks⟩ := refCommand_onRef (s := s) (source := source) (named := refByte r) hrow hc hl
      exact refused (hnext.trans ((onRef_some hx next).trans (hasks hs hread r x ho)))
    · obtain ⟨rest, rfl⟩ := List.head?_eq_some_iff.mp hp
      obtain ⟨next, hnext, hasks⟩ := driveCommand_onChannel (s := s) (source := source) (named := channelByte c) hrow hc hl
      exact refused (hnext.trans ((onChannel_channelByte c next).trans (hasks hs hread c ho hfree)))

end Sys2Proof.Machine

/-! SUPPORT. What each operation of the line port makes of the port, in the cases of its rule; the rows of the line and of the reply
(R175 to R187). -/

namespace Sys2Proof.Machine

section
variable {s : State} {p q : Port} {c : Instr}

/-! ### A row of the line port -/

/-- A row that acts on the port of a running part leaves the rest as it is. -/
theorem exec_portRow (hrun : s.inReset = false) (hc : exec c s = running s (s.setPort p)) (hp : p = q) :
    exec c s = .next { s with port := q } := by
  rw [hc, running_free hrun, hp]
  rfl

/-! ### What the port hears -/

/-- The port hears nothing while it sends (R186). -/
theorem hears_sending (h : p.isSending = true) : p.hears = false := by simp [Port.hears, h]

/-- The port hears nothing until the line has risen after a break (R178). -/
theorem hears_broken (h : p.lowRun = .broken) : p.hears = false := by simp [Port.hears, h]

theorem address_deaf (h : p.hears = false) (drop value : Byte) : p.address drop value = p := by simp [Port.address, h]

theorem data_deaf (h : p.hears = false) (value : Byte) : p.data value = p := by simp [Port.data, h]

theorem stopError_deaf (h : p.hears = false) (data : Byte) (mark : Bool) : p.stopError data mark = p := by
  simp [Port.stopError, h]

/-! ### Discards (R181) -/

theorem discard_eq (p : Port) (reason : DiscardReason) : p.discard reason =
    { p with discardCount := counted p.discardCount, lastDiscard := some reason } := by
  by_cases h : p.discardCount = 65535
  · simp [Port.discard, counted, h]
  · simp only [Port.discard, counted, beq_iff_eq, if_neg h]

theorem dropReply_waiting (h : p.turnaround = true) (reason : DiscardReason) : p.dropReply reason = { p with
    turnaround := false, reply := none, discardCount := counted p.discardCount, lastDiscard := some reason } := by
  rw [Port.dropReply, if_pos h, discard_eq]

theorem dropReply_none (h : p.turnaround = false) (reason : DiscardReason) : p.dropReply reason = p := by
  rw [Port.dropReply, if_neg (by simp [h])]

theorem dropFrame_collecting {kind : FrameKind} (h : p.rx = .collecting kind) (reason : DiscardReason) :
    p.dropFrame reason = { p with discardCount := counted p.discardCount, lastDiscard := some reason } := by
  simp only [Port.dropFrame, h, discard_eq]

theorem dropFrame_none (h : p.rx = .addressWait ∨ p.rx = .discarding) (reason : DiscardReason) :
    p.dropFrame reason = p := by
  rcases h with h | h <;> simp only [Port.dropFrame, h]

theorem receiver_cases (rx : Receiver) : (∃ kind, rx = .collecting kind) ∨ rx = .addressWait ∨ rx = .discarding := by
  cases rx with
  | addressWait => exact .inr (.inl rfl)
  | collecting kind => exact .inl ⟨kind, rfl⟩
  | discarding => exact .inr (.inr rfl)

/-! ### Address characters (R175, R176, R185) -/

theorem examine_eq (p : Port) (drop value : Byte) : p.examine drop value = { p with
    rx := if value = drop then .collecting .directed else if value = 127 then .collecting .broadcast else .addressWait
    buffer := [] } := by
  simp only [Port.examine, Port.enter, Config.broadcast, beq_iff_eq]
  split
  · rfl
  · split <;> rfl

/-- An address character drops a reply, or cuts a frame, or finds neither; then it is examined. -/
theorem address_eq (h : p.hears = true) (drop value : Byte) : p.address drop value =
    (({ p with lowRun := .clear }.dropReply .preempted).dropFrame .cut).examine drop value := by
  rw [Port.address, if_pos h]

end

/-- Settles O55: while a reply waits there is no frame to cut, so at most one discard is counted. -/
theorem addressCharactersStartCutAndPreempt : Obligations.AddressCharactersStartCutAndPreempt := by
  intro s value hrun hhear hwait cut reason hpreempt hcut hnone
  refine exec_portRow hrun rfl ?_
  rw [address_eq hhear, examine_eq]
  by_cases ht : s.port.turnaround = true
  · obtain rfl := hpreempt ht
    rw [dropReply_waiting (by exact ht), dropFrame_none (.inl (by exact hwait ht)), if_pos ht]
    rfl
  · have hf : s.port.turnaround = false := Bool.eq_false_iff.mpr ht
    rw [dropReply_none (by exact hf), if_neg ht]
    rcases receiver_cases s.port.rx with ⟨kind, hrx⟩ | hrx
    · obtain rfl := hcut ⟨kind, hrx⟩
      rw [dropFrame_collecting (kind := kind) (by exact hrx)]
      simp [hf]
    · have hno : ¬ cut := fun ⟨kind, hk⟩ => by rcases hrx with hrx | hrx <;> cases hrx.symm.trans hk
      obtain rfl := hnone hf hno
      rw [dropFrame_none (by exact hrx)]
      simp [hf]

/-! ### Data characters and stop-bit errors (R175 to R177) -/

section
variable {p : Port}

theorem data_stored {kind : FrameKind} (h : p.hears = true) (hrx : p.rx = .collecting kind) (hl : p.buffer.length < 80)
    (value : Byte) : p.data value = { p with buffer := p.buffer ++ [value], lowRun := .clear } := by
  simp only [Port.data, if_pos h, hrx, Config.bufferSize, if_pos hl]

theorem data_overrun {kind : FrameKind} (h : p.hears = true) (hrx : p.rx = .collecting kind) (hl : 80 ≤ p.buffer.length)
    (value : Byte) : p.data value = { p with
      rx := .discarding, buffer := [], lowRun := .clear, discardCount := counted p.discardCount, lastDiscard := some .length } := by
  simp only [Port.data, if_pos h, hrx, Config.bufferSize, if_neg (Nat.not_lt.mpr hl), discard_eq, Port.enter]

theorem data_ignored (h : p.hears = true) (hrx : p.rx = .addressWait ∨ p.rx = .discarding) (value : Byte) :
    p.data value = { p with lowRun := .clear } := by
  rcases hrx with hrx | hrx <;> simp only [Port.data, if_pos h, hrx]

theorem stopError_allLow (h : p.hears = true) : p.stopError 0 false = { p with lowRun := .allLow } := by
  simp [Port.stopError, h]

/-- A character is not all low when one of its data bits or its mark bit is high. -/
theorem not_allLow {value : Byte} {mark : Bool} (h : ¬ (value = 0 ∧ mark = false)) : ¬ (value == 0 && !mark) = true := by
  simpa using h

theorem stopError_framing {kind : FrameKind} (h : p.hears = true) (hrx : p.rx = .collecting kind) {value : Byte} {mark : Bool}
    (hlow : ¬ (value = 0 ∧ mark = false)) : p.stopError value mark = { p with
      rx := .discarding, buffer := [], lowRun := .clear, discardCount := counted p.discardCount,
      lastDiscard := some .framing } := by
  simp only [Port.stopError, if_pos h, if_neg (not_allLow hlow), hrx, discard_eq, Port.enter]

theorem stopError_ignored (h : p.hears = true) (hrx : p.rx = .addressWait ∨ p.rx = .discarding) {value : Byte} {mark : Bool}
    (hlow : ¬ (value = 0 ∧ mark = false)) : p.stopError value mark = { p with lowRun := .clear } := by
  rcases hrx with hrx | hrx <;> simp only [Port.stopError, if_pos h, if_neg (not_allLow hlow), hrx]

end

/-- Settles O56: one case for each receiver state, and none while the part sends. -/
theorem dataCharactersAreCollectedOrIgnored : Obligations.DataCharactersAreCollectedOrIgnored := by
  intro s value mark hrun
  refine ⟨fun hhear => ⟨fun kind hrx => ⟨fun hl => ?_, fun hl => ?_, fun hlow => ?_⟩, fun hrx => ⟨?_, fun hlow => ?_⟩, ?_⟩,
    fun hsend => ⟨?_, ?_, ?_⟩⟩
  · exact exec_portRow hrun rfl (data_stored hhear hrx hl value)
  · exact exec_portRow hrun rfl (data_overrun hhear hrx hl value)
  · exact exec_portRow hrun rfl (stopError_framing hhear hrx hlow)
  · exact exec_portRow hrun rfl (data_ignored hhear hrx value)
  · exact exec_portRow hrun rfl (stopError_ignored hhear hrx hlow)
  · exact exec_portRow hrun rfl (stopError_allLow hhear)
  · exact exec_portRow hrun rfl (data_deaf (hears_sending hsend) value)
  · exact exec_portRow hrun rfl (stopError_deaf (hears_sending hsend) value mark)
  · exact exec_portRow hrun rfl (address_deaf (hears_sending hsend) s.dropAddress value)

/-! ### The checks of a frame and the idle gap (R177, R179) -/

section
variable {p : Port}

theorem checkFrame_short {buffer : List Byte} (h : buffer.length < 5) (kind : FrameKind) (free : Bool) :
    checkFrame kind free buffer = .error .short := by
  unfold checkFrame
  split
  · rw [if_pos h]
  · rfl

/-- A buffer of at least five characters is a source, a code, a length, a payload and a check of two bytes; the checks are made on
these parts (Table 10-4). -/
theorem checkFrame_parts {check : List Byte} (hc : check.length = 2) (kind : FrameKind) (free : Bool)
    (source code length : Byte) (payload : List Byte) :
    checkFrame kind free (source :: code :: length :: (payload ++ check)) =
      if length.toNat ≠ payload.length then .error .length
      else if be16 (frameCheck (source :: code :: length :: payload)) ≠ check then .error .check
      else if source.toNat < 1 ∨ 15 < source.toNat then .error .source
      else if !free then .error .busy
      else if kind = .broadcast ∧ code ≠ measureOwnedCode then .error .notBroadcast
      else .ok { kind := kind, source := source, code := code, payload := payload } := by
  have hlen : (source :: code :: length :: (payload ++ check)).length = payload.length + 5 := by
    simp [hc]
  have hbody : (source :: code :: length :: (payload ++ check)).take (payload.length + 3) =
      source :: code :: length :: payload := by simp
  have hcheck : (source :: code :: length :: (payload ++ check)).drop (payload.length + 3) = check := by simp
  have hpay : (payload ++ check).take ((payload ++ check).length - 2) = payload := by simp [hc]
  simp only [checkFrame, hlen, hpay, show payload.length + 5 - 2 = payload.length + 3 by omega, hbody, hcheck,
    Nat.add_sub_cancel]
  rw [if_neg (by omega)]

theorem gap_addressWait (h : p.hears = true) (hrx : p.rx = .addressWait) : p.gap = { p with lowRun := .clear } := by
  simp only [Port.gap, if_pos h, hrx]

theorem gap_discarding (h : p.hears = true) (hrx : p.rx = .discarding) :
    p.gap = { p with rx := .addressWait, buffer := [], lowRun := .clear } := by
  simp only [Port.gap, if_pos h, hrx, Port.enter]

theorem gap_discarded {kind : FrameKind} {reason : DiscardReason} (h : p.hears = true) (hrx : p.rx = .collecting kind)
    (hc : checkFrame kind p.command.isNone p.buffer = .error reason) : p.gap = { p with
      rx := .addressWait, buffer := [], lowRun := .clear, discardCount := counted p.discardCount, lastDiscard := some reason } := by
  simp only [Port.gap, if_pos h, hrx, hc, discard_eq, Port.enter]

theorem gap_accepted {kind : FrameKind} {f : CommandFrame} (h : p.hears = true) (hrx : p.rx = .collecting kind)
    (hc : checkFrame kind p.command.isNone p.buffer = .ok f) : p.gap = { p with
      rx := .addressWait, buffer := [], lowRun := .clear, command := some f,
      turnaround := p.turnaround || decide (kind = .directed) } := by
  simp only [Port.gap, if_pos h, hrx, hc, Port.enter]
  rfl

end

/-- Settles O57: the six checks are made on the parts of the frame in their order, and the first that fails is the reason. -/
theorem framesAreAcceptedOrDiscardedAtTheGap : Obligations.FramesAreAcceptedOrDiscardedAtTheGap := by
  intro s hrun hhear discarded
  refine ⟨fun kind hrx => ?_, fun hrx => exec_portRow hrun rfl (gap_discarding hhear hrx),
    fun hrx => exec_portRow hrun rfl (gap_addressWait hhear hrx)⟩
  have reject : ∀ reason, checkFrame kind s.port.command.isNone s.port.buffer = .error reason →
      exec .idleGap s = .next (discarded reason) :=
    fun reason hc => exec_portRow hrun rfl (gap_discarded hhear hrx hc)
  refine ⟨fun hl => reject .short (checkFrame_short hl kind _), fun source code length payload check hc hbuffer => ?_⟩
  have hparts := checkFrame_parts hc kind s.port.command.isNone source code length payload
  rw [← hbuffer] at hparts
  refine ⟨fun hl => reject .length (by rw [hparts, if_pos hl]), fun hl => ?_⟩
  rw [if_neg (not_not.mpr hl)] at hparts
  refine ⟨fun hne => reject .check (by rw [hparts, if_pos hne.symm]), fun he => ?_⟩
  rw [if_neg (not_not.mpr he.symm)] at hparts
  refine ⟨fun hs => reject .source (by rw [hparts, if_pos (hs.imp_left fun h0 => by simp [h0])]), fun hs1 hs15 => ?_⟩
  rw [if_neg (by omega)] at hparts
  refine ⟨fun hbusy => reject .busy (by rw [hparts, if_pos (by simpa [Option.isSome_iff_ne_none] using hbusy)]), fun hfree => ?_⟩
  rw [if_neg (by simp [hfree])] at hparts
  refine ⟨fun hk hcode => reject .notBroadcast (by rw [hparts, if_pos ⟨hk, hcode⟩]), fun hk => ?_⟩
  rw [if_neg fun hno => hno.2 (hk hno.1)] at hparts
  exact exec_portRow hrun rfl (gap_accepted hhear hrx hparts)

/-! ### A low line (R176, R178) -/

section
variable {p : Port}

theorem takeBreak_eq (hs : p.isSending = false) (hb : p.lowRun ≠ .broken) : p.takeBreak =
    ({ p with lowRun := .broken }.dropFrame .lineBreak |>.enter .addressWait).dropReply .lineBreak := by
  rw [Port.takeBreak, if_neg (by simp [hs, hb])]

theorem rise_collecting {kind : FrameKind} (hl : p.lowRun = .allLow) (hrx : p.rx = .collecting kind) : p.rise = { p with
    rx := .discarding, buffer := [], lowRun := .settling, discardCount := counted p.discardCount,
    lastDiscard := some .framing } := by
  simp only [Port.rise, hl, hrx, discard_eq, Port.enter]

theorem rise_allLow (hl : p.lowRun = .allLow) (hrx : p.rx = .addressWait ∨ p.rx = .discarding) :
    p.rise = { p with lowRun := .settling } := by
  rcases hrx with hrx | hrx <;> simp only [Port.rise, hl, hrx]

theorem rise_broken (hl : p.lowRun = .broken) : p.rise = { p with lowRun := .settling } := by
  simp only [Port.rise, hl]

theorem rise_none (hl : p.lowRun = .clear ∨ p.lowRun = .settling) : p.rise = p := by
  rcases hl with hl | hl <;> simp only [Port.rise, hl]

end

/-- Settles O58: one case for each receiver state at a break, and one for each low run at a rise. -/
theorem breaksAndRisesJudgeALowLine : Obligations.BreaksAndRisesJudgeALowLine := by
  refine ⟨fun s hrun hs hb => ⟨fun kind hrx ht => ?_, fun hrx ht => ?_, fun hrx ht => ?_⟩,
    fun s hrun => ⟨fun kind hl hrx => ?_, fun hl hrx => ?_, fun hl => ?_, fun hl => ?_⟩, fun s hrun hl value => ⟨?_, ?_⟩⟩
  · refine exec_portRow hrun rfl ((takeBreak_eq hs hb).trans ?_)
    rw [dropFrame_collecting (by exact hrx), dropReply_none (by exact ht)]
    rfl
  · refine exec_portRow hrun rfl ((takeBreak_eq hs hb).trans ?_)
    rw [dropFrame_none (.inl (by exact hrx)), dropReply_waiting (by exact ht)]
    rfl
  · refine exec_portRow hrun rfl ((takeBreak_eq hs hb).trans ?_)
    rw [dropFrame_none (by exact hrx), dropReply_none (by exact ht)]
    rfl
  · exact exec_portRow hrun rfl (rise_collecting hl hrx)
  · exact exec_portRow hrun rfl (rise_allLow hl hrx)
  · exact exec_portRow hrun rfl (rise_broken hl)
  · exact exec_portRow hrun rfl (rise_none hl)
  · exact exec_portRow hrun rfl (address_deaf (hears_broken hl) s.dropAddress value)
  · exact exec_portRow hrun rfl (data_deaf (hears_broken hl) value)

/-! ### Sending a reply (R184, R186, R187) -/

section
variable {s : State} {p : Port}

theorem startSending_reply {r : Reply} (hr : p.reply = some r) (ht : p.turnaround = true) (h : p.hears = true) (drop : Byte) :
    p.startSending drop = { p with
      rx := .addressWait, buffer := [], turnaround := false, sending := replyCharacters drop r } := by
  simp only [Port.startSending, hr, ht, h, Bool.and_self, if_true, Port.enter]

/-- Without a turnaround that has its reply nothing is sent (log 2). -/
theorem startSending_none (h : p.reply = none ∨ p.turnaround = false) (drop : Byte) : p.startSending drop = p := by
  rcases h with h | h
  · simp only [Port.startSending, h]
  · cases hr : p.reply <;> simp [Port.startSending, hr, h]

/-- A reply with L payload bytes is a frame of 6 + L characters (Table 10-4). -/
theorem replyCharacters_length (drop : Byte) (r : Reply) : (replyCharacters drop r).length = 6 + r.payload.length := by
  simp only [replyCharacters, be16, List.length_cons, List.length_map, List.length_append, List.length_nil]
  omega

theorem echoMatches_iff (c : LineCharacter) (data : Byte) (mark stop : Bool) :
    echoMatches c data mark stop = true ↔ data = c.data ∧ mark = c.mark ∧ stop = true := by
  rw [echoMatches, Bool.and_eq_true, Bool.and_eq_true, beq_iff_eq, beq_iff_eq, and_assoc, eq_comm (a := data),
    eq_comm (a := mark)]

/-- A character that is heard back as it was sent is followed by the next. -/
theorem echoed_next {first next : LineCharacter} {rest : List LineCharacter} {data : Byte} {mark stop : Bool}
    (hs : s.port.sending = first :: next :: rest) (he : echoMatches first data mark stop = true) :
    s.echoed data mark stop = { s with port := { s.port with sending := next :: rest } } := by
  simp only [State.echoed, hs, if_pos he]
  rfl

/-- The last character that is heard back ends the reply. -/
theorem echoed_last {last : LineCharacter} {data : Byte} {mark stop : Bool} (hs : s.port.sending = [last])
    (he : echoMatches last data mark stop = true) : s.echoed data mark stop = { s with port := { s.port with
      rx := .addressWait, buffer := [], reply := none, sending := [] } } := by
  simp only [State.echoed, hs, if_pos he]
  rfl

/-- A character that is heard back otherwise abandons the reply. -/
theorem echoed_contention {first : LineCharacter} {rest : List LineCharacter} {data : Byte} {mark stop : Bool}
    (hs : s.port.sending = first :: rest) (he : ¬ echoMatches first data mark stop = true) :
    s.echoed data mark stop = { s with
      port := { s.port with rx := .addressWait, buffer := [], reply := none, sending := [], lowRun := .settling }
      causes := { s.causes with lineContention := true } } := by
  simp only [State.echoed, hs, if_neg he]
  rfl

end

/-- Settles O59: the turnaround ends with or without a reply to send, and an echo matches or differs. -/
theorem repliesAreSentAndEchoed : Obligations.RepliesAreSentAndEchoed := by
  refine ⟨fun s r hrun hr ht hhear => ?_, fun s hrun hno => ?_, fun s c rest hrun hs => ⟨?_, ?_, ?_, ?_, ?_⟩⟩
  · exact ⟨_, rfl, _, rfl, replyCharacters_length s.dropAddress r,
      exec_portRow hrun rfl (startSending_reply hr ht hhear s.dropAddress)⟩
  · exact exec_portRow hrun rfl (startSending_none hno s.dropAddress)
  · simp [State.lineDE, Port.isSending, hs]
  · simp [State.lineTX, hs]
  · intro hne
    obtain ⟨next, rest, rfl⟩ := List.exists_cons_of_ne_nil hne
    exact (running_free hrun _).trans
      (congrArg Host.Outcome.next (echoed_next hs ((echoMatches_iff ..).mpr ⟨rfl, rfl, rfl⟩)))
  · rintro rfl
    exact (running_free hrun _).trans
      (congrArg Host.Outcome.next (echoed_last hs ((echoMatches_iff ..).mpr ⟨rfl, rfl, rfl⟩)))
  · intro data mark stop hdiffers
    refine (running_free hrun _).trans (congrArg Host.Outcome.next (echoed_contention hs fun he => ?_))
    obtain ⟨hdata, hmark, hstop⟩ := (echoMatches_iff ..).mp he
    rcases hdiffers with h | h | h
    · exact h hdata
    · exact h hmark
    · exact absurd (h.symm.trans hstop) (by decide)

/-! ### A frame on the line (Table 10-4) -/

section
variable {s : State} {p : Port} {c : Instr}

theorem hears_clear (hs : p.sending = []) (hl : p.lowRun = .clear) : p.hears = true := by
  simp [Port.hears, Port.isSending, hs, hl]

theorem sending_of_hears (h : p.hears = true) : p.sending = [] := by
  simp only [Port.hears, Port.isSending, Bool.and_eq_true, Bool.not_not, List.isEmpty_iff] at h
  exact h.1

theorem runRows_cons {t : State} (h : exec c s = .next t) (rows : List Instr) : runRows (c :: rows) s = runRows rows t := by
  rw [runRows, h]

/-- An address character that finds neither a reply nor a frame is examined. -/
theorem address_idle (h : p.hears = true) (ht : p.turnaround = false) (hrx : p.rx = .addressWait ∨ p.rx = .discarding)
    (drop value : Byte) : p.address drop value = { p with
      rx := if value = drop then .collecting .directed else if value = 127 then .collecting .broadcast else .addressWait
      buffer := [], lowRun := .clear } := by
  rw [address_eq h, examine_eq, dropReply_none (by exact ht), dropFrame_none (by exact hrx)]

/-- Characters that fit the buffer are stored one after another. -/
theorem runRows_data {kind : FrameKind} (bytes : List Byte) (rows : List Instr) (hrun : s.inReset = false)
    (hsend : s.port.sending = []) (hlow : s.port.lowRun = .clear) (hrx : s.port.rx = .collecting kind)
    (hl : s.port.buffer.length + bytes.length ≤ 80) :
    runRows (bytes.map Instr.dataCharacter ++ rows) s =
      runRows rows { s with port := { s.port with buffer := s.port.buffer ++ bytes } } := by
  induction bytes generalizing s with
  | nil => simp
  | cons b bytes ih =>
    rw [List.length_cons] at hl
    have hstep : exec (.dataCharacter b) s =
        .next { s with port := { s.port with buffer := s.port.buffer ++ [b] } } := by
      refine exec_portRow hrun rfl ((data_stored (hears_clear hsend hlow) hrx (by omega) b).trans ?_)
      rw [← hlow]
    rw [List.map_cons, List.cons_append, runRows_cons hstep]
    refine (ih (s := { s with port := { s.port with buffer := s.port.buffer ++ [b] } }) hrun hsend hlow hrx ?_).trans ?_
    · simp only [List.length_append, List.length_singleton]
      omega
    · simp only [List.append_assoc, List.singleton_append]

/-- A frame that is written with its length and its check is accepted by a free port; a broadcast one is MEASURE_OWNED. -/
theorem checkFrame_written {kind : FrameKind} {source code : Byte} {payload : List Byte} (hl : payload.length ≤ 75)
    (hs1 : 1 ≤ source.toNat) (hs15 : source.toNat ≤ 15) (hk : kind = .broadcast → code = 0x41) :
    checkFrame kind true (source :: code :: countByte payload.length ::
      (payload ++ be16 (frameCheck (source :: code :: countByte payload.length :: payload)))) =
      .ok ⟨kind, source, code, payload⟩ := by
  have hlen : (countByte payload.length).toNat = payload.length := by
    rw [countByte, BitVec.toNat_ofNat]
    omega
  rw [checkFrame_parts rfl, if_neg (not_not.mpr hlen), if_neg (not_not.mpr rfl), if_neg (by omega), if_neg (by decide),
    if_neg fun hno => hno.2 (hk hno.1)]

/-- The gap after a frame that passes the checks ends the rows of the frame. -/
theorem runRows_gap {kind : FrameKind} {f : CommandFrame} (hrun : s.inReset = false) (hhear : s.port.hears = true)
    (hrx : s.port.rx = .collecting kind) (hc : checkFrame kind s.port.command.isNone s.port.buffer = .ok f) :
    runRows [.idleGap] s = .next { s with port := { s.port with
      rx := .addressWait, buffer := [], lowRun := .clear, command := some f,
      turnaround := s.port.turnaround || decide (kind = .directed) } } := by
  rw [runRows_cons (exec_portRow hrun rfl (gap_accepted hhear hrx hc)), runRows]

/-- The data characters of a frame and the gap after them put it in the command buffer of a port that has begun to collect. -/
theorem runRows_collected {kind : FrameKind} {source code : Byte} {payload : List Byte} (hrun : s.inReset = false)
    (hsend : s.port.sending = []) (hlow : s.port.lowRun = .clear) (hrx : s.port.rx = .collecting kind)
    (hbuffer : s.port.buffer = []) (ht : s.port.turnaround = false) (hfree : s.port.command = none)
    (hl : payload.length ≤ 75) (hs1 : 1 ≤ source.toNat) (hs15 : source.toNat ≤ 15) (hk : kind = .broadcast → code = 0x41) :
    runRows ((source :: code :: countByte payload.length :: payload ++
      be16 (frameCheck (source :: code :: countByte payload.length :: payload))).map Instr.dataCharacter ++ [.idleGap]) s =
      .next { s with port := { s.port with
        rx := .addressWait, buffer := [], lowRun := .clear, command := some ⟨kind, source, code, payload⟩,
        turnaround := decide (kind = .directed) } } := by
  refine (runRows_data _ _ hrun hsend hlow hrx ?_).trans ?_
  · simp only [hbuffer, be16, List.length_append, List.length_cons, List.length_nil]
    omega
  · rw [hbuffer, List.nil_append]
    refine (runRows_gap (kind := kind) (f := ⟨kind, source, code, payload⟩) (by exact hrun)
      (hears_clear (by exact hsend) (by exact hlow)) (by exact hrx) ?_).trans ?_
    · simp only [hfree]
      exact checkFrame_written hl hs1 hs15 hk
    · simp only [ht, Bool.false_or]

/-- The rows of a frame put it in the command buffer of an idle port. -/
theorem runRows_frame {kind : FrameKind} {address source code : Byte} {payload : List Byte} (hrun : s.inReset = false)
    (hhear : s.port.hears = true) (hrx : s.port.rx = .addressWait ∨ s.port.rx = .discarding)
    (ht : s.port.turnaround = false) (hfree : s.port.command = none) (hl : payload.length ≤ 75) (hs1 : 1 ≤ source.toNat)
    (hs15 : source.toNat ≤ 15) (hk : kind = .broadcast → code = 0x41)
    (haddress : (if address = s.dropAddress then Receiver.collecting .directed
      else if address = 127 then .collecting .broadcast else .addressWait) = .collecting kind) :
    runRows (frameRows address source code payload) s = .next { s with port := { s.port with
      rx := .addressWait, buffer := [], lowRun := .clear, command := some ⟨kind, source, code, payload⟩,
      turnaround := decide (kind = .directed) } } := by
  have hsend := sending_of_hears hhear
  have hstart := exec_portRow (c := .addressCharacter address) hrun rfl
    (address_idle hhear ht hrx s.dropAddress address)
  rw [haddress] at hstart
  exact (runRows_cons hstart _).trans
    (runRows_collected hrun hsend rfl rfl rfl ht hfree hl hs1 hs15 hk)

/-- The frame check of "1" to "9" (R180). -/
theorem frameCheck_digits : frameCheck [0x31, 0x32, 0x33, 0x34, 0x35, 0x36, 0x37, 0x38, 0x39] = 0x29B1 := by decide +kernel

/-- No strapping gives the part the broadcast address (R174, R175). -/
theorem dropAddress_ne_broadcast (s : State) : (127 : Byte) ≠ s.dropAddress := by
  intro h
  have hdrop := dropAddress_toNat s
  have hstrap := s.addrStrap.isLt
  rw [← h, show (127 : Byte).toNat = 127 from rfl] at hdrop
  omega

end

/-- Settles O60: the address character starts the frame, its characters are stored, and the six checks pass at the gap. -/
theorem framesOnTheLineReachTheCommandBuffer : Obligations.FramesOnTheLineReachTheCommandBuffer := by
  refine ⟨fun s source code payload hrun hhear hrx ht hfree hl hs1 hs15 => ⟨?_, fun hcode => ?_⟩, frameCheck_digits⟩
  · exact runRows_frame (kind := .directed) hrun hhear hrx ht hfree hl hs1 hs15 nofun (if_pos rfl)
  · rw [runRows_frame (kind := .broadcast) hrun hhear hrx ht hfree hl hs1 hs15 (fun _ => hcode)
      (by rw [if_neg (dropAddress_ne_broadcast s), if_pos rfl])]
    simp [ht]

end Sys2Proof.Machine

/-! SUPPORT. The line port and the queue of rows: which operations leave both alone, what every row can make of the port, and the
statements that follow (R27, R182, R188). -/

namespace Sys2Proof.Machine

/-! ### Operations that leave the line port and the queue of rows alone -/

/-- The line port and the rows that wait, which only the rows of the line, a completion and a reset touch. -/
def State.outside (s : State) : Port × List Instr := (s.port, s.pending)

@[simp] theorem setPoint_outside (s : State) (p : Slot) (r : Option PointRecord) : (s.setPoint p r).outside = s.outside := rfl
@[simp] theorem setTag_outside (s : State) (p : Slot) (t : Option Half) : (s.setTag p t).outside = s.outside := rfl
@[simp] theorem setRef_outside (s : State) (r : RefId) (x : Option RefRecord) : (s.setRef r x).outside = s.outside := rfl
@[simp] theorem setConverter_outside (s : State) (c : Converter) : (s.setConverter c).outside = s.outside := rfl
@[simp] theorem insertEntry_outside (s : State) (k : Record) (due : Clock) : (s.insertEntry k due).outside = s.outside := rfl
@[simp] theorem returnEntry_outside (s : State) (k : Record) (due : Clock) : (s.returnEntry k due).outside = s.outside := rfl
@[simp] theorem removeEntry_outside (s : State) (k : Record) : (s.removeEntry k).outside = s.outside := rfl
@[simp] theorem joinPoint_outside (s : State) (p : Slot) : (s.joinPoint p).outside = s.outside := rfl
@[simp] theorem leavePoint_outside (s : State) (p : Slot) : (s.leavePoint p).outside = s.outside := rfl
@[simp] theorem joinRef_outside (s : State) (r : RefId) : (s.joinRef r).outside = s.outside := rfl
@[simp] theorem setSupplyLow_outside (s : State) : s.setSupplyLow.outside = s.outside := rfl

@[simp] theorem gainUser_outside (s : State) (r : RefId) : (s.gainUser r).outside = s.outside := by
  rw [gainUser_frame]; rfl

@[simp] theorem loseUser_outside (s : State) (r : RefId) : (s.loseUser r).outside = s.outside := by
  rw [loseUser_frame]; rfl

@[simp] theorem gainLiveUser_outside (s : State) (r : RefId) : (s.gainLiveUser r).outside = s.outside := by
  rw [gainLiveUser_frame]; rfl

@[simp] theorem loseLiveUser_outside (s : State) (r : RefId) : (s.loseLiveUser r).outside = s.outside := by
  rw [loseLiveUser_frame]; rfl

@[simp] theorem requestLevel_outside (s : State) (b : Option ChannelId) (a : Alarm) :
    (s.requestLevel b a).outside = s.outside := by rw [requestLevel_frame]; rfl

@[simp] theorem bindChannel_outside (s : State) (b : Option ChannelId) (p : Slot) (a : Alarm) :
    (s.bindChannel b p a).outside = s.outside := by rw [bindChannel_frame]; rfl

@[simp] theorem unbindChannel_outside (s : State) (b : Option ChannelId) : (s.unbindChannel b).outside = s.outside := by
  rw [unbindChannel_frame]; rfl

@[simp] theorem announce_outside (s : State) (p : Slot) (r : PointRecord) (a : Alarm) :
    (s.announce p r a).outside = s.outside := by rw [announce_frame]; rfl

@[simp] theorem withdraw_outside (s : State) (p : Slot) : (s.withdraw p).outside = s.outside := by rw [withdraw_eq]; rfl

theorem amendSlot_outside (s : State) (p : Slot) (r n : PointRecord) : (s.amendSlot p r n).outside = s.outside := by
  simp [State.amendSlot, apply_ite State.outside]

theorem retire_outside (s : State) (p : Slot) (r : PointRecord) : (s.retire p r).outside = s.outside := by
  simp [State.retire, apply_ite State.outside]

theorem noticesRead_outside (s : State) (source : Byte) : (s.noticesRead source).outside = s.outside := by
  simp only [State.outside, State.noticesRead]

/-! ### The timed fields and the outcomes of a job -/

theorem expireDeadline_outside (s : State) (p : Slot) : (s.expireDeadline p).outside = s.outside := by
  unfold State.expireDeadline
  split
  · simp [apply_ite State.outside]
  · rfl

theorem expireOffer_outside (s : State) (p : Slot) : (s.expireOffer p).outside = s.outside := by
  unfold State.expireOffer
  split
  · simp [apply_ite State.outside]
  · rfl

theorem expireLocate_outside (s : State) (p : Slot) : (s.expireLocate p).outside = s.outside := by
  unfold State.expireLocate
  split
  · simp [apply_ite State.outside]
  · rfl

@[simp] theorem evaluateMeasurement_outside (s : State) (p : Slot) (start : Clock) (v : Half) (q : Quality) :
    (s.evaluateMeasurement p start v q).outside = s.outside := by
  unfold State.evaluateMeasurement
  split
  · simp [apply_ite State.outside]
  · rfl

@[simp] theorem evaluateFault_outside (s : State) (p : Slot) (start : Clock) (q : Quality) :
    (s.evaluateFault p start q).outside = s.outside := by
  unfold State.evaluateFault
  split
  · simp [apply_ite State.outside]
  · rfl

@[simp] theorem applyCount_outside (s : State) (r : RefId) (n : BitVec 22) : (s.applyCount r n).outside = s.outside := by
  unfold State.applyCount
  split
  · simp [apply_ite State.outside]
  · rfl

@[simp] theorem applyRefFault_outside (s : State) (r : RefId) (f : RefFault) : (s.applyRefFault r f).outside = s.outside := by
  unfold State.applyRefFault
  split
  · simp [apply_ite State.outside]
  · rfl

@[simp] theorem returnRef_outside (s : State) (r : RefId) (due : Clock) : (s.returnRef r due).outside = s.outside := by
  unfold State.returnRef
  split
  · simp [apply_ite State.outside]
  · rfl

/-! ### The events of the converter and the due queue -/

@[simp] theorem endPhase_outside (s : State) : s.endPhase.outside = s.outside := rfl

theorem deliverPoint_outside {s : State} {j : Job} {outcome : Slot → State → State}
    (h : ∀ p, (outcome p s).outside = s.outside) : (s.deliverPoint j outcome).outside = s.outside := by
  unfold State.deliverPoint
  split
  · exact h _
  · rfl

theorem deliverRef_outside {s : State} {j : Job} {outcome : RefId → State → State}
    (h : ∀ r, (outcome r s).outside = s.outside) : (s.deliverRef j outcome).outside = s.outside := by
  unfold State.deliverRef
  split
  · exact h _
  · rfl

theorem sensorOverflow_outside (s : State) (frequency : Nat) : (s.sensorOverflow frequency).outside = s.outside := by
  unfold State.sensorOverflow
  split
  · split
    · exact deliverPoint_outside fun _ => evaluateFault_outside ..
    · rfl
  · rfl

theorem windowEnd_outside (s : State) (frequency : Nat) : (s.windowEnd frequency).outside = s.outside := by
  unfold State.windowEnd
  split
  · dsimp only
    split
    · rfl
    · exact deliverPoint_outside fun _ => by simp [apply_ite State.outside]
  · rfl

theorem countComplete_outside (s : State) (frequency : Nat) : (s.countComplete frequency).outside = s.outside := by
  unfold State.countComplete
  split
  · split
    · exact deliverRef_outside fun _ => by simp [apply_ite State.outside]
    · rfl
  · rfl

theorem timeBaseLimit_outside (s : State) (frequency : Nat) : (s.timeBaseLimit frequency).outside = s.outside := by
  unfold State.timeBaseLimit
  split
  · split
    · rfl
    · exact deliverRef_outside fun _ => applyRefFault_outside ..
  · rfl

theorem latchSupply_outside (s : State) (vdda : Nat) : (s.latchSupply vdda).outside = s.outside := by
  unfold State.latchSupply
  split
  · split
    · unfold State.enterPhase
      split <;> rfl
    · unfold State.returnUnrun
      dsimp only
      split <;> simp
  · rfl

theorem endHold_outside (s : State) : s.endHold.outside = s.outside := by
  unfold State.endHold
  split <;> rfl

theorem dispatchHead_outside (s : State) (e : QueueEntry) : (s.dispatchHead e).outside = s.outside := by
  unfold State.dispatchHead
  split
  · split <;> rfl
  · split
    · split
      · split
        · rfl
        · rfl
        · simp
        · rfl
      · rfl
    · rfl

theorem dispatched_outside (s : State) : s.dispatched.outside = s.outside := by
  unfold State.dispatched
  split
  · split
    · exact dispatchHead_outside ..
    · rfl
  · rfl

/-! ### The events of the channels and the matrix -/

theorem atBoundary_outside (s : State) (c : ChannelId) : (s.atBoundary c).outside = s.outside := by
  unfold State.atBoundary
  split <;> rfl

theorem atDuty_outside (s : State) (c : ChannelId) : (s.atDuty c).outside = s.outside := by
  unfold State.atDuty
  split <;> rfl

theorem dimEnded_outside (s : State) (c : Column) : (s.dimEnded c).outside = s.outside := by
  unfold State.dimEnded
  split <;> rfl

theorem blanked_outside (s : State) : s.blanked.outside = s.outside := by
  unfold State.blanked
  split <;> rfl

/-! ### The commands -/

/-- The port but for its record of discards, and the rows that wait, are as they were. -/
def State.LineKept (s t : State) : Prop :=
  ∃ count last, t.outside = ({ s.port with discardCount := count, lastDiscard := last }, s.pending)

theorem State.LineKept.of_outside {s t : State} (h : t.outside = s.outside) : s.LineKept t :=
  ⟨s.port.discardCount, s.port.lastDiscard, h⟩

/-- No command reaches the port but CLEAR_CAUSES, which clears the record of discards (R168). -/
theorem command_lineKept {row : Instr} {code : Byte} {length : Nat} {command : Executor}
    (h : commandOf row = some (code, length, command)) (source : Byte) (payload : List Byte) (s : State) :
    (command source payload s).Leaves s.LineKept := by
  have hsame : s.LineKept s := .of_outside rfl
  cases row with
  | definePoint =>
    cases h
    exact definePoint_leaves fun _ _ _ _ _ _ _ _ _ => leaves_bindingTest (.of_outside (by simp [State.fillSlot]))
  | amendPoint =>
    cases h
    exact amendPoint_leaves fun _ _ _ _ _ _ _ _ _ _ => leaves_bindingTest (.of_outside (amendSlot_outside ..))
  | startPoint => cases h; exact startPoint_leaves fun _ _ _ _ => .of_outside (by simp [State.start])
  | stopPoint =>
    cases h
    exact stopPoint_leaves (fun _ _ _ _ => .of_outside (by simp [State.stopLive])) fun _ _ _ _ => .of_outside rfl
  | retirePoint => cases h; exact retirePoint_leaves fun _ _ _ => .of_outside (retire_outside ..)
  | readPoint => cases h; exact readPoint_leaves hsame
  | findTag => cases h; exact findTag_leaves hsame
  | listPoints => cases h; exact listPoints_leaves hsame
  | offerPoint => cases h; exact offerPoint_leaves fun _ _ _ _ _ _ _ => .of_outside rfl
  | withdrawOffer => cases h; exact withdrawOffer_leaves fun _ _ _ => .of_outside rfl
  | takePoint => cases h; exact takePoint_leaves fun _ _ _ _ _ => .of_outside (by rw [moveOwner_eq]; rfl)
  | assignOwner => cases h; exact assignOwner_leaves fun _ _ _ _ _ _ _ => .of_outside (by rw [moveOwner_eq]; rfl)
  | defineRef => cases h; exact defineRef_leaves fun _ _ _ _ _ _ _ => .of_outside rfl
  | amendRef => cases h; exact amendRef_leaves fun _ _ _ _ _ _ _ _ _ _ _ _ => .of_outside rfl
  | calibrateRef =>
    cases h
    exact calibrateRef_leaves fun _ _ _ _ => .of_outside (by rw [callCalibration_eq]; rfl)
  | readRef => cases h; exact readRef_leaves hsame
  | retireRef => cases h; exact retireRef_leaves fun _ _ _ _ => .of_outside (by rw [emptyRef_eq]; rfl)
  | measureNow => cases h; exact measureNow_leaves fun _ => .of_outside rfl
  | measureOwned => cases h; exact measureOwned_leaves fun _ => .of_outside rfl
  | configureDrive => cases h; exact configureDrive_leaves fun _ _ _ _ _ _ => .of_outside rfl
  | setDriveLevels => cases h; exact setDriveLevels_leaves fun _ _ => .of_outside rfl
  | setDrivePeriod => cases h; exact setDrivePeriod_leaves fun _ _ _ => .of_outside rfl
  | setManualDuty => cases h; exact setManualDuty_leaves fun _ _ => .of_outside rfl
  | enableDrive => cases h; exact enableDrive_leaves fun _ _ => .of_outside rfl
  | disableDrive => cases h; exact disableDrive_leaves fun _ => .of_outside rfl
  | releaseDrive => cases h; exact releaseDrive_leaves fun _ _ _ => .of_outside rfl
  | readDrive => cases h; exact readDrive_leaves hsame
  | locatePoint => cases h; exact locatePoint_leaves fun _ _ _ _ => .of_outside rfl
  | readNotices => cases h; exact readNotices_leaves (.of_outside (noticesRead_outside ..))
  | readStatus => cases h; exact readStatus_leaves hsame
  | clearCauses => cases h; exact clearCauses_leaves ⟨0, none, rfl⟩
  | setDevice => cases h; exact setDevice_leaves fun _ => .of_outside rfl
  | clearTables => cases h; exact clearTables_leaves (.of_outside rfl)
  | _ => cases h

/-! ### What a row can make of the line port -/

/-- What a row can make of the line port. -/
inductive PortChange : Port → Port → Prop
  | same (p : Port) : PortChange p p
  /-- A clear of the record of discards (R168). -/
  | recorded (p : Port) (count : Half) (last : Option DiscardReason) :
    PortChange p { p with discardCount := count, lastDiscard := last }
  /-- A completion without a reply: a broadcast command, or a directed one after its turnaround (R183, R185). -/
  | freed (p : Port) : PortChange p { p with command := none }
  /-- A completion with its reply (R182). -/
  | replied (p : Port) (r : Reply) (h : p.turnaround = true) : PortChange p { p with command := none, reply := some r }
  | address (p : Port) (drop value : Byte) : PortChange p (p.address drop value)
  | data (p : Port) (value : Byte) : PortChange p (p.data value)
  | stopError (p : Port) (value : Byte) (mark : Bool) : PortChange p (p.stopError value mark)
  | gap (p : Port) : PortChange p p.gap
  | takeBreak (p : Port) : PortChange p p.takeBreak
  | rise (p : Port) : PortChange p p.rise
  | startSending (p : Port) (drop : Byte) : PortChange p (p.startSending drop)
  /-- A matching echo before the last (R186). -/
  | sent (p : Port) (first next : LineCharacter) (rest : List LineCharacter) (h : p.sending = first :: next :: rest) :
    PortChange p { p with sending := next :: rest }
  /-- The end of a reply, sent or abandoned (R186, R187). -/
  | ended (p : Port) (low : LowRun) (h : p.sending ≠ []) : PortChange p { p.endReply with lowRun := low }
  /-- Hardware reset (R190). -/
  | reset (p : Port) : PortChange p Port.reset
  | trans {p q r : Port} (h : PortChange p q) (h' : PortChange q r) : PortChange p r

/-- From `s` to `t` the line port changes as a row changes it, and the rows that wait stay. -/
structure State.LineTo (s t : State) : Prop where
  port : PortChange s.port t.port
  pending : t.pending = s.pending

namespace State.LineTo

variable {s t u : State}

theorem of_outside (h : t.outside = s.outside) : s.LineTo t := by
  obtain ⟨hport, hpending⟩ := Prod.mk.inj h
  exact ⟨hport ▸ .same _, hpending⟩

theorem of_lineKept (h : s.LineKept t) : s.LineTo t := by
  obtain ⟨count, last, h⟩ := h
  obtain ⟨hport, hpending⟩ := Prod.mk.inj h
  exact ⟨hport ▸ .recorded .., hpending⟩

theorem trans (h : s.LineTo t) (h' : t.LineTo u) : s.LineTo u := ⟨h.port.trans h'.port, h'.pending.trans h.pending⟩

theorem deliver (s : State) (f : CommandFrame) (code : Byte) (payload : List Byte) : s.LineTo (s.deliver f code payload) := by
  refine ⟨?_, rfl⟩
  simp only [State.deliver, setPort_port]
  split
  · next h => exact .replied _ _ ((Bool.and_eq_true _ _).mp h).2
  · exact .freed _

theorem finish {f : CommandFrame} {a : Answer} (h : a.Leaves s.LineKept) : s.LineTo (s.finish f a) := by
  cases a with
  | refuse code => exact deliver ..
  | ok t payload => exact (of_lineKept h).trans (deliver ..)
  | accepted t => exact (of_lineKept h).trans (deliver ..)

theorem complete {code : Byte} {command : Executor} (he : Machine.complete code command s = .next t)
    (hc : ∀ source payload, (command source payload s).Leaves s.LineKept) : s.LineTo t := by
  rcases complete_next he with rfl | ⟨f, -, -, -, rfl⟩
  · exact of_outside rfl
  · exact finish (hc ..)

theorem running {u : State} (he : Machine.running s u = .next t) (hu : s.LineTo u) : s.LineTo t :=
  running_keeps he (of_outside rfl) hu

theorem unknownCommand (he : execUnknownCommand s = .next t) : s.LineTo t := by
  unfold execUnknownCommand at he
  split at he
  · split at he
    · exact Host.Outcome.next.inj he ▸ of_outside rfl
    · exact Host.Outcome.next.inj he ▸ deliver ..
  · exact Host.Outcome.next.inj he ▸ of_outside rfl

theorem hardReset (s : State) (low : Bool) (addr : BitVec 3) (rate : BitVec 2) : s.LineTo (s.hardReset low addr rate) :=
  ⟨.reset _, rfl⟩

theorem resetRelease {addr : BitVec 3} {rate : BitVec 2} (he : execResetRelease addr rate s = .next t) : s.LineTo t := by
  unfold execResetRelease at he
  split at he
  · exact Host.Outcome.next.inj he ▸ hardReset ..
  · exact Host.Outcome.next.inj he ▸ of_outside rfl

theorem echoed (s : State) (data : Byte) (mark stop : Bool) : s.LineTo (s.echoed data mark stop) := by
  unfold State.echoed
  split
  · exact of_outside rfl
  · next first rest hs =>
    have hne : s.port.sending ≠ [] := by rw [hs]; exact nofun
    split
    · split
      · exact ⟨.ended _ s.port.lowRun hne, rfl⟩
      · exact ⟨.sent _ _ _ _ hs, rfl⟩
    · exact ⟨.ended _ .settling hne, rfl⟩

/-- What any row can make of the line port and of the rows that wait. -/
theorem of_exec {c : Instr} (he : exec c s = .next t) : s.LineTo t := by
  cases hc : commandOf c with
  | some x =>
    obtain ⟨code, length, command⟩ := x
    rw [exec_commandOf hc] at he
    exact complete he fun source payload => command_lineKept hc source payload s
  | none =>
    cases c with
    | unknownCommand => exact unknownCommand he
    | hardwareReset => exact Host.Outcome.next.inj he ▸ hardReset ..
    | resetRelease addr rate => exact resetRelease he
    | scheduleClockStep => exact running he (of_outside rfl)
    | fallingDue => exact running he (of_outside rfl)
    | offerExpiry slot => exact running he (of_outside (expireOffer_outside ..))
    | locateExpiry slot => exact running he (of_outside (expireLocate_outside ..))
    | freshnessDeadlineExpiry slot => exact running he (of_outside (expireDeadline_outside ..))
    | dispatch => exact running he (of_outside (dispatched_outside ..))
    | supplyCheckLatch vdda => exact running he (of_outside (latchSupply_outside ..))
    | holdExpiry => exact running he (of_outside (endHold_outside ..))
    | referenceCountComplete frequency => exact running he (of_outside (countComplete_outside ..))
    | referenceTimeBaseLimit frequency => exact running he (of_outside (timeBaseLimit_outside ..))
    | sensorCountOverflow frequency => exact running he (of_outside (sensorOverflow_outside ..))
    | sensorWindowEnd frequency => exact running he (of_outside (windowEnd_outside ..))
    | periodBoundary channel => exact running he (of_outside (atBoundary_outside ..))
    | driveDutyCount channel => exact running he (of_outside (atDuty_outside ..))
    | rowSlotStart => exact running he (of_outside rfl)
    | cellOnTimeEnd column => exact running he (of_outside (dimEnded_outside ..))
    | blankingGap => exact running he (of_outside (blanked_outside ..))
    | addressCharacter value => exact running he ⟨.address .., rfl⟩
    | dataCharacter value => exact running he ⟨.data .., rfl⟩
    | stopBitError data mark => exact running he ⟨.stopError .., rfl⟩
    | idleGap => exact running he ⟨.gap _, rfl⟩
    | lineBreak => exact running he ⟨.takeBreak _, rfl⟩
    | lineRise => exact running he ⟨.rise _, rfl⟩
    | turnaroundEnd => exact running he ⟨.startSending .., rfl⟩
    | characterEcho data mark stop => exact running he (echoed ..)
    | _ => cases hc

end State.LineTo

/-! ### Every row answers a next state -/

/-- The row of a command answers a next state, whether or not it completes a frame. -/
theorem complete_answers (code : Byte) (command : Executor) (s : State) : ∃ t, complete code command s = .next t := by
  unfold complete
  split
  · split
    · exact ⟨_, rfl⟩
    · exact ⟨_, rfl⟩
  · exact ⟨_, rfl⟩

theorem running_answers (s t : State) : ∃ u, running s t = .next u := by
  unfold running
  split
  · exact ⟨_, rfl⟩
  · exact ⟨_, rfl⟩

theorem unknownCommand_answers (s : State) : ∃ t, execUnknownCommand s = .next t := by
  unfold execUnknownCommand
  split
  · split
    · exact ⟨_, rfl⟩
    · exact ⟨_, rfl⟩
  · exact ⟨_, rfl⟩

theorem resetRelease_answers (addr : BitVec 3) (rate : BitVec 2) (s : State) :
    ∃ t, execResetRelease addr rate s = .next t := by
  unfold execResetRelease
  split
  · exact ⟨_, rfl⟩
  · exact ⟨_, rfl⟩

/-- A row completes a command, needs the part to run, or is one of UNKNOWN_COMMAND and the two of the reset; each answers. -/
theorem exec_answers (c : Instr) (s : State) : ∃ t, exec c s = .next t := by
  cases hc : commandOf c with
  | some x =>
    obtain ⟨code, length, command⟩ := x
    rw [exec_commandOf hc]
    exact complete_answers ..
  | none =>
    cases c with
    | unknownCommand => exact unknownCommand_answers s
    | hardwareReset => exact ⟨_, rfl⟩
    | resetRelease addr rate => exact resetRelease_answers ..
    | scheduleClockStep | fallingDue | offerExpiry | locateExpiry | freshnessDeadlineExpiry | dispatch | supplyCheckLatch |
      holdExpiry | referenceCountComplete | referenceTimeBaseLimit | sensorCountOverflow | sensorWindowEnd | periodBoundary |
      driveDutyCount | rowSlotStart | cellOnTimeEnd | blankingGap | addressCharacter | dataCharacter | stopBitError | idleGap |
      lineBreak | lineRise | turnaroundEnd | characterEcho => exact running_answers s _
    | _ => cases hc

/-- Settles O2: no row stops the part, and none reaches the rows that wait. -/
theorem everyRowAnswersNextAndKeepsTheQueue : Obligations.EveryRowAnswersNextAndKeepsTheQueue := by
  intro c s
  obtain ⟨t, h⟩ := exec_answers c s
  exact ⟨t, h, (State.LineTo.of_exec h).pending⟩

/-! ### A refused command -/

/-- The reply of a directed command, while its turnaround lasts, is the one in the reply buffer (R182). -/
theorem deliver_reply {s : State} {source code k : Byte} {payload reply : List Byte} (h : s.port.turnaround = true) :
    (s.deliver ⟨.directed, source, code, payload⟩ k reply).port.reply = some ⟨source, k, reply⟩ := by
  simp [State.deliver, h]

/-- The port still waits for its reply after a command (R184). -/
theorem State.LineKept.turnaround {s t : State} (h : s.LineKept t) : t.port.turnaround = s.port.turnaround := by
  obtain ⟨count, last, h⟩ := h
  obtain ⟨hport, -⟩ := Prod.mk.inj h
  rw [hport]

/-- Settles O54: a reply other than OK and ACCEPTED is that of a refusal, which changes the port alone. -/
theorem refusedCommandsChangeNothing : Obligations.RefusedCommandsChangeNothing := by
  intro s t source code payload row length reply h hmem ht he hreply hok haccepted
  obtain ⟨command, hc⟩ := commandOf_of_mem hmem
  have hleaves := command_lineKept hc source payload s
  rw [exec_commandOf hc, complete_holds h] at he
  obtain rfl := Host.Outcome.next.inj he
  cases ha : command source payload s with
  | refuse k =>
    rw [ha, State.finish, deliver_reply ht] at hreply
    obtain rfl := Option.some.inj hreply
    rw [finish_refuse]
    simp [State.answered, ht]
  | ok u bytes =>
    rw [ha] at hleaves hreply
    rw [State.finish, deliver_reply ((State.LineKept.turnaround hleaves).trans ht)] at hreply
    obtain rfl := Option.some.inj hreply
    exact absurd rfl hok
  | accepted u =>
    rw [ha] at hleaves hreply
    rw [State.finish, deliver_reply ((State.LineKept.turnaround hleaves).trans ht)] at hreply
    obtain rfl := Option.some.inj hreply
    exact absurd rfl haccepted

/-! ### The line port stays sound (Table 10-2, R182, R184, R186) -/

/-- The soundness of the port, clause by clause. -/
structure Port.Sound (p : Port) : Prop where
  fits : p.buffer.length ≤ 80
  emptied : (∀ kind, p.rx ≠ .collecting kind) → p.buffer = []
  quiet : p.rx ≠ .addressWait → p.turnaround = false ∧ p.sending = []
  single : p.turnaround = true → p.sending = []
  waiting : p.reply ≠ none → p.turnaround = true ∨ p.sending ≠ []
  backed : p.sending ≠ [] → p.reply ≠ none

theorem Port.sound_iff (p : Port) : p.sound = true ↔ p.Sound := by
  have hclauses : p.Sound ↔ p.buffer.length ≤ 80 ∧ ((∀ kind, p.rx ≠ .collecting kind) → p.buffer = []) ∧
      (p.rx ≠ .addressWait → p.turnaround = false ∧ p.sending = []) ∧ (p.turnaround = true → p.sending = []) ∧
      (p.reply ≠ none → p.turnaround = true ∨ p.sending ≠ []) ∧ (p.sending ≠ [] → p.reply ≠ none) :=
    ⟨fun ⟨h1, h2, h3, h4, h5, h6⟩ => ⟨h1, h2, h3, h4, h5, h6⟩, fun ⟨h1, h2, h3, h4, h5, h6⟩ => ⟨h1, h2, h3, h4, h5, h6⟩⟩
  rw [hclauses]
  simp only [Port.sound, Port.isSending, Config.bufferSize, Bool.and_eq_true, Bool.or_eq_true, Bool.not_eq_true',
    Bool.and_eq_false_iff, Bool.not_eq_false', List.isEmpty_iff, List.isEmpty_eq_false_iff,
    Option.isNone_iff_eq_none, Option.isSome_iff_ne_none]
  cases hrx : p.rx with
  | addressWait => grind
  | collecting kind => grind
  | discarding => grind

theorem dropReply_turnaround (p : Port) (reason : DiscardReason) : (p.dropReply reason).turnaround = false := by
  by_cases ht : p.turnaround = true
  · rw [dropReply_waiting ht]
  · rw [dropReply_none (Bool.eq_false_iff.mpr ht)]
    exact Bool.eq_false_iff.mpr ht

theorem dropReply_sending (p : Port) (reason : DiscardReason) : (p.dropReply reason).sending = p.sending := by
  unfold Port.dropReply
  split <;> rfl

theorem dropFrame_turnaround (p : Port) (reason : DiscardReason) : (p.dropFrame reason).turnaround = p.turnaround := by
  unfold Port.dropFrame
  split <;> rfl

theorem dropFrame_sending (p : Port) (reason : DiscardReason) : (p.dropFrame reason).sending = p.sending := by
  unfold Port.dropFrame
  split <;> rfl

namespace Port.Sound

variable {p : Port}

/-- The record of discards, the low run and the command buffer play no part in the soundness of the port. -/
theorem recorded (h : p.Sound) (count : Half) (last : Option DiscardReason) :
    { p with discardCount := count, lastDiscard := last }.Sound := { h with }

theorem low (h : p.Sound) (low : LowRun) : { p with lowRun := low }.Sound := { h with }

theorem freed (h : p.Sound) : { p with command := none }.Sound := { h with }

/-- A reply is placed while its turnaround lasts. -/
theorem replied (h : p.Sound) (r : Reply) (ht : p.turnaround = true) :
    { p with command := none, reply := some r }.Sound :=
  { h with waiting := fun _ => .inl ht, backed := fun _ => nofun }

theorem discard (h : p.Sound) (reason : DiscardReason) : (p.discard reason).Sound := by
  rw [discard_eq]
  exact h.recorded ..

/-- In ADDRESS_WAIT anything may wait or be sent that may at all. -/
theorem wait (h : p.Sound) : (p.enter .addressWait).Sound :=
  { h with fits := Nat.zero_le _, emptied := fun _ => rfl, quiet := fun hne => absurd rfl hne }

/-- The other two receiver states are entered without a reply that waits or is sent. -/
theorem entered (h : p.Sound) (ht : p.turnaround = false) (hs : p.sending = []) (rx : Receiver) : (p.enter rx).Sound :=
  { h with fits := Nat.zero_le _, emptied := fun _ => rfl, quiet := fun _ => ⟨ht, hs⟩ }

theorem dropReply (h : p.Sound) (reason : DiscardReason) : (p.dropReply reason).Sound := by
  by_cases ht : p.turnaround = true
  · rw [dropReply_waiting ht]
    exact { h with
      quiet := fun hne => ⟨rfl, (h.quiet hne).2⟩, single := nofun, waiting := fun hne => absurd rfl hne,
      backed := fun hs => absurd (h.single ht) hs }
  · rw [dropReply_none (Bool.eq_false_iff.mpr ht)]
    exact h

theorem dropFrame (h : p.Sound) (reason : DiscardReason) : (p.dropFrame reason).Sound := by
  unfold Port.dropFrame
  split
  · exact h.discard reason
  · exact h
  · exact h

theorem examine (h : p.Sound) (ht : p.turnaround = false) (hs : p.sending = []) (drop value : Byte) :
    (p.examine drop value).Sound := by
  unfold Port.examine
  split
  · exact h.entered ht hs _
  · split
    · exact h.entered ht hs _
    · exact h.entered ht hs _

theorem address (h : p.Sound) (drop value : Byte) : (p.address drop value).Sound := by
  unfold Port.address
  split
  · next hhear =>
    have hs := sending_of_hears hhear
    refine (((h.low .clear).dropReply _).dropFrame _).examine ?_ ?_ drop value
    · rw [dropFrame_turnaround, dropReply_turnaround]
    · rw [dropFrame_sending, dropReply_sending]
      exact hs
  · exact h

theorem data (h : p.Sound) (value : Byte) : (p.data value).Sound := by
  unfold Port.data
  split
  · next hhear =>
    dsimp only
    split
    · next kind hrx =>
      obtain ⟨ht, hs⟩ := h.quiet (by rw [hrx]; exact nofun)
      split
      · next hl =>
        exact { h.low .clear with
          fits := by rw [List.length_append, List.length_singleton]; exact hl
          emptied := fun hno => absurd hrx (hno kind) }
      · exact ((h.low .clear).discard .length).entered (by rw [discard_eq]; exact ht) (by rw [discard_eq]; exact hs) _
    · exact h.low .clear
    · exact h.low .clear
  · exact h

theorem stopError (h : p.Sound) (value : Byte) (mark : Bool) : (p.stopError value mark).Sound := by
  unfold Port.stopError
  split
  · split
    · exact h.low .allLow
    · dsimp only
      split
      · next kind hrx =>
        obtain ⟨ht, hs⟩ := h.quiet (by rw [hrx]; exact nofun)
        exact ((h.low .clear).discard .framing).entered (by rw [discard_eq]; exact ht) (by rw [discard_eq]; exact hs) _
      · exact h.low .clear
      · exact h.low .clear
  · exact h

theorem gap (h : p.Sound) : p.gap.Sound := by
  unfold Port.gap
  split
  · next hhear =>
    have hs := sending_of_hears hhear
    dsimp only
    split
    · exact h.low .clear
    · exact (h.low .clear).wait
    · split
      · exact ((h.low .clear).discard _).wait
      · exact { (h.low .clear).wait with
          quiet := fun hne => absurd rfl hne
          single := fun _ => hs
          waiting := fun hr => (h.waiting hr).imp_left fun ht => by simp [ht] }
  · exact h

theorem takeBreak (h : p.Sound) : p.takeBreak.Sound := by
  unfold Port.takeBreak
  split
  · exact h
  · exact ((h.low .broken).dropFrame .lineBreak).wait.dropReply .lineBreak

theorem rise (h : p.Sound) : p.rise.Sound := by
  unfold Port.rise
  split
  · split
    · next kind hrx =>
      obtain ⟨ht, hs⟩ := h.quiet (by rw [hrx]; exact nofun)
      exact ((h.low .settling).discard .framing).entered (by rw [discard_eq]; exact ht) (by rw [discard_eq]; exact hs) _
    · exact h.low .settling
    · exact h.low .settling
  · exact h.low .settling
  · exact h
  · exact h

theorem startSending (h : p.Sound) (drop : Byte) : (p.startSending drop).Sound := by
  unfold Port.startSending
  split
  · next r hr =>
    split
    · exact { h.wait with
        quiet := fun hne => absurd rfl hne, single := nofun, waiting := fun _ => .inr nofun
        backed := fun _ => by exact hr ▸ nofun }
    · exact h
  · exact h

theorem sent (h : p.Sound) {first next : LineCharacter} {rest : List LineCharacter}
    (hs : p.sending = first :: next :: rest) : { p with sending := next :: rest }.Sound := by
  have hne : p.sending ≠ [] := by rw [hs]; exact nofun
  exact { h with
    quiet := fun hrx => absurd (h.quiet hrx).2 hne, single := fun ht => absurd (h.single ht) hne,
    waiting := fun _ => .inr nofun, backed := fun _ => h.backed hne }

/-- A reply ends with nothing left to wait or to be sent. -/
theorem ended (h : p.Sound) : p.endReply.Sound :=
  { h.wait with
    quiet := fun hne => absurd rfl hne, single := fun _ => rfl, waiting := fun hne => absurd rfl hne,
    backed := fun hne => absurd rfl hne }

end Port.Sound

theorem PortChange.sound {p q : Port} (hc : PortChange p q) (h : p.Sound) : q.Sound := by
  induction hc with
  | same p => exact h
  | recorded p count last => exact h.recorded count last
  | freed p => exact h.freed
  | replied p r ht => exact h.replied r ht
  | address p drop value => exact h.address drop value
  | data p value => exact h.data value
  | stopError p value mark => exact h.stopError value mark
  | gap p => exact h.gap
  | takeBreak p => exact h.takeBreak
  | rise p => exact h.rise
  | startSending p drop => exact h.startSending drop
  | sent p first next rest hs => exact h.sent hs
  | ended p low hs => exact h.ended.low low
  | reset p => exact (Port.sound_iff _).mp rfl
  | trans _ _ ih ih' => exact ih' (ih h)

/-! ### The frame in the command buffer (R27, R179) -/

/-- A check that has passed is followed by the next. -/
theorem ok_of_check {c : Prop} [Decidable c] {reason : DiscardReason} {rest : Except DiscardReason CommandFrame}
    {f : CommandFrame} (h : (if c then .error reason else rest) = .ok f) : ¬ c ∧ rest = .ok f := by
  split at h
  · cases h
  · next hc => exact ⟨hc, h⟩

/-- A frame that passes the checks has a source of 1-15 (R179). -/
theorem checkFrame_source {kind : FrameKind} {free : Bool} {buffer : List Byte} {f : CommandFrame}
    (h : checkFrame kind free buffer = .ok f) : 1 ≤ f.source.toNat ∧ f.source.toNat ≤ 15 := by
  unfold checkFrame at h
  split at h
  · obtain ⟨-, h⟩ := ok_of_check h
    obtain ⟨-, h⟩ := ok_of_check h
    obtain ⟨-, h⟩ := ok_of_check h
    obtain ⟨hsource, h⟩ := ok_of_check h
    obtain ⟨-, h⟩ := ok_of_check h
    obtain ⟨-, h⟩ := ok_of_check h
    obtain rfl := Except.ok.inj h
    rw [not_or] at hsource
    exact ⟨Nat.not_lt.mp hsource.1, Nat.not_lt.mp hsource.2⟩
  · cases h

theorem dropReply_command (p : Port) (reason : DiscardReason) : (p.dropReply reason).command = p.command := by
  unfold Port.dropReply
  split <;> rfl

theorem dropFrame_command (p : Port) (reason : DiscardReason) : (p.dropFrame reason).command = p.command := by
  unfold Port.dropFrame
  split <;> rfl

theorem address_command (p : Port) (drop value : Byte) : (p.address drop value).command = p.command := by
  unfold Port.address
  split
  · rw [examine_eq]
    exact (dropFrame_command ..).trans (dropReply_command ..)
  · rfl

theorem data_command (p : Port) (value : Byte) : (p.data value).command = p.command := by
  unfold Port.data
  split
  · dsimp only
    split
    · split <;> rfl
    · rfl
    · rfl
  · rfl

theorem stopError_command (p : Port) (value : Byte) (mark : Bool) : (p.stopError value mark).command = p.command := by
  unfold Port.stopError
  split
  · split
    · rfl
    · dsimp only
      split <;> rfl
  · rfl

theorem takeBreak_command (p : Port) : p.takeBreak.command = p.command := by
  unfold Port.takeBreak
  split
  · rfl
  · exact (dropReply_command ..).trans (dropFrame_command ..)

theorem rise_command (p : Port) : p.rise.command = p.command := by
  unfold Port.rise
  split
  · split <;> rfl
  · rfl
  · rfl
  · rfl

theorem startSending_command (p : Port) (drop : Byte) : (p.startSending drop).command = p.command := by
  unfold Port.startSending
  split
  · split <;> rfl
  · rfl

/-- The gap puts a frame into the command buffer only when it passes the checks. -/
theorem gap_command (p : Port) : p.gap.command = p.command ∨
    ∃ kind f, checkFrame kind p.command.isNone p.buffer = .ok f ∧ p.gap.command = some f := by
  unfold Port.gap
  split
  · dsimp only
    split
    · exact .inl rfl
    · exact .inl rfl
    · next kind _ =>
      split
      · exact .inl rfl
      · next f hf => exact .inr ⟨kind, f, hf, rfl⟩
  · exact .inl rfl

/-- The source of the frame in the command buffer is within 1-15. -/
def Port.SourceSound (p : Port) : Prop := ∀ f ∈ p.command, 1 ≤ f.source.toNat ∧ f.source.toNat ≤ 15

theorem Port.SourceSound.congr {p q : Port} (h : p.SourceSound) (hc : q.command = p.command) : q.SourceSound := by
  rw [Port.SourceSound, hc]
  exact h

theorem PortChange.sourceSound {p q : Port} (hc : PortChange p q) (h : p.SourceSound) : q.SourceSound := by
  induction hc with
  | same p => exact h
  | recorded p count last => exact h
  | freed p => exact nofun
  | replied p r ht => exact nofun
  | address p drop value => exact h.congr (address_command ..)
  | data p value => exact h.congr (data_command ..)
  | stopError p value mark => exact h.congr (stopError_command ..)
  | gap p =>
    rcases gap_command p with hsame | ⟨kind, f, hf, hgap⟩
    · exact h.congr hsame
    · intro g hg
      obtain rfl : f = g := Option.some.inj (hgap.symm.trans hg)
      exact checkFrame_source hf
  | takeBreak p => exact h.congr (takeBreak_command p)
  | rise p => exact h.congr (rise_command p)
  | startSending p drop => exact h.congr (startSending_command ..)
  | sent p first next rest hs => exact h
  | ended p low hs => exact h
  | reset p => exact nofun
  | trans _ _ ih ih' => exact ih' (ih h)

/-- A step idles or changes the port as its row does. -/
theorem step_portChange {s t : State} (h : step s = .next t) : PortChange s.port t.port := by
  rcases step_next h with rfl | ⟨c, rest, -, h⟩
  · exact .same _
  · exact (State.LineTo.of_exec h).port

/-- Settles O15: each way in which a row changes the port keeps it sound, and only a frame that has passed the checks is handed to
the executor. -/
theorem linePortSoundAfterEveryStep : Obligations.LinePortSoundAfterEveryStep :=
  ⟨fun s t hs h => (Port.sound_iff t.port).mpr ((step_portChange h).sound ((Port.sound_iff s.port).mp hs)),
    fun _ _ hs h => (step_portChange h).sourceSound hs⟩

end Sys2Proof.Machine

/-! CERTIFICATE. The row that a step takes: the two cases of the queue of waiting rows, and O1 from them. -/

namespace Sys2Proof.Machine

/-- The row at the front acts on the part with the rest of the queue. -/
theorem step_of_pending_cons {s : State} {c : Instr} {rest : List Instr} (h : s.pending = c :: rest) :
    step s = exec c { s with pending := rest } := by
  rw [step, h]

/-- The part idles on an empty queue (log 3). -/
theorem step_of_pending_nil {s : State} (h : s.pending = []) : step s = .next s := by
  rw [step, h]

/-- Settles O1: one clause for each case of the queue of waiting rows. -/
theorem stepTakesTheFrontRow : Obligations.StepTakesTheFrontRow :=
  ⟨fun _ _ _ => step_of_pending_cons rfl, fun _ h => step_of_pending_nil h⟩

end Sys2Proof.Machine
